-- ==== Sys2Proof/Word.lean ====
section
/-! DEFINITION. Words of the link, tick counts and converter codes of the KX260. -/

namespace Sys2Proof

/-- A 16-bit word: a link word, a period number, a duty fraction (00_scope, "Link words", "Quantities and ranges"). -/
abbrev Word := BitVec 16

/-- A tick count or a step-tick count: 32 bits that wrap (R1). -/
abbrev Tick := BitVec 32

/-- A converter code, 0..4095 (R45). -/
abbrev Code := BitVec 12

/-- A link frame: eight words, word 0 first (00_scope, "Link words"). -/
structure Frame where
  w0 : Word
  w1 : Word
  w2 : Word
  w3 : Word
  w4 : Word
  w5 : Word
  w6 : Word
  w7 : Word
  deriving DecidableEq, Repr, Inhabited

end Sys2Proof
end

