-- ==== Sys2Proof/Syntax.lean ====
section
/-! DEFINITION. The commands of the KX260: one constructor for each row of opcode_table.json, with its operands. -/

namespace Sys2Proof

/-- The two motors (R151, motor select). -/
inductive Motor where
  | drum
  | pump
  deriving DecidableEq, Repr, Inhabited

/-- The three phases of a motor (00_scope, "Quantities and ranges"). -/
inductive Phase where
  | a
  | b
  | c
  deriving DecidableEq, Repr, Inhabited

/-- One value for each of the phases A, B and C. -/
structure PerPhase (α : Type) where
  a : α
  b : α
  c : α
  deriving DecidableEq, Repr, Inhabited

/-- Where, among the blocks that take a drum period start, the permit sample and a change of the validated
permit are taken. R18, R40, R73, R93 and R97 leave it open (log 5). -/
inductive PermitTurn where
  /-- before the period entry of the period ending is closed -/
  | beforeClose
  /-- after the close, before an entry to SAFE for OVERCURRENT, the drum's stop and its entry to RUN -/
  | beforeEntry
  /-- after the stop and the entry to RUN, before the plan application (R40, R73) -/
  | afterEntry
  /-- after the plan application, before an entry to SAFE for OVERCURRENT that comes after it too (R97) -/
  | afterPlan
  /-- after the plan application and any entry to SAFE for OVERCURRENT -/
  | afterTrip
  deriving DecidableEq, Repr, Inhabited

/-- The orders within one drum period start that the rules leave open (log 5). -/
structure PeriodOrder where
  /-- R18, R40, R73, R93, R97: the turn of the permit change -/
  permitTurn : PermitTurn
  /-- R94: the pending stop (and its STATE notice) is taken before the close (and its DRUM record) -/
  stopFirst : Bool
  /-- R77: the SAFE entry for OVERCURRENT is taken before the plan application -/
  tripFirst : Bool
  /-- R49, R51: the housekeeping requests join before the plan's requests -/
  houseFirst : Bool
  /-- R18: the motor whose state control takes a permit change first -/
  first : Motor
  deriving DecidableEq, Repr, Inhabited

/-- An edge of LCLK during a frame (R145): a rising edge with the level on LDI that it samples, or a falling edge. -/
inductive LinkEdge where
  | rise (ldi : Bool)
  | fall
  deriving DecidableEq, Repr, Inhabited

/-- The fields of a SETUP frame, as wide as on the link (R167). -/
structure SetupFields where
  h : Word
  hp : Word
  tsettle : Word
  lp : Word
  dt : BitVec 8
  threshold : BitVec 8
  kmiss : BitVec 4
  divider : BitVec 5
  /-- the drum safe action: BRAKE if set, COAST if clear -/
  brake : Bool
  deriving DecidableEq, Repr, Inhabited

/-- The fields of a TABLE frame with table id PROFILE, as wide as on the link (R167). -/
structure ProfileFields where
  alignDuty : Word
  alignPeriods : Word
  alpha8 : BitVec 8
  blanking : BitVec 4
  nstable : BitVec 4
  kzc : BitVec 4
  startIndex : BitVec 3
  deriving DecidableEq, Repr, Inhabited

/-- The commands. The rows whose name is a frame kind stand for the completion of a full-length frame with that
content (R146, R151); the other rows stand for the event they name. -/
inductive Instr where
  /-- POWER_RESET (R157) -/
  | powerReset
  /-- PIN_RESET (R156) -/
  | pinReset
  /-- PIN_RESET_RELEASE (R157) -/
  | pinResetRelease
  /-- FRAME_BEGIN (R145) -/
  | frameBegin
  /-- SHORT_FRAME (R146), with the number of bits sampled, below 128 -/
  | shortFrame (bits : Nat)
  /-- BREAK_FRAME (R149); `first` is the state control that takes a link break first (R150, log 5) -/
  | breakFrame (first : Motor)
  /-- CHECK_ERROR (R147) -/
  | checkError
  /-- UNKNOWN_KIND (R151), with the kind value, 8..15 -/
  | unknownKind (kind : BitVec 4)
  /-- FILL (R151) -/
  | fill
  /-- SETUP (R152), with the level on PERMIT that its period start 0 samples (R5, R17; log 4) -/
  | setup (fields : SetupFields) (permit : Bool)
  /-- DUTY (R20) -/
  | duty (fractions : PerPhase Word)
  /-- PUMP (R137), with its two-bit direction field -/
  | pump (direction : BitVec 2) (duty : Word)
  /-- RATE (R7) -/
  | rate (h hp : Word)
  /-- TABLE_INPUT (R61): row, offset source, input, offset code, trip code -/
  | tableInput (row : BitVec 4) (source : BitVec 2) (input : BitVec 4) (offset trip : Word)
  /-- TABLE_COMMUTATION (R107): row, high, low and floating phase, polarity -/
  | tableCommutation (row : BitVec 4) (high low floating polarity : BitVec 2)
  /-- TABLE_PROFILE (R130) -/
  | tableProfile (fields : ProfileFields)
  /-- TABLE_RAMP (R130): row, interval, repeats, duty -/
  | tableRamp (row : BitVec 4) (interval : BitVec 24) (repeats : BitVec 8) (duty : Word)
  /-- TABLE_RAMP_LENGTH (R130) -/
  | tableRampLength (length : BitVec 5)
  /-- QUERY_LINK (R165) -/
  | queryLink (clear : Bool)
  /-- QUERY_DRUM (R165) -/
  | queryDrum (clear : Bool)
  /-- QUERY_DRUM_SNAP (R166) -/
  | queryDrumSnap (clear : Bool)
  /-- QUERY_PUMP (R165) -/
  | queryPump (clear : Bool)
  /-- QUERY_PUMP_RING_A (R165) -/
  | queryPumpRingA (clear : Bool)
  /-- QUERY_PUMP_RING_B (R165) -/
  | queryPumpRingB (clear : Bool)
  /-- QUERY_PUMP_SNAP (R166) -/
  | queryPumpSnap (clear : Bool)
  /-- QUERY_TABLE (R164), with the table id and the row of word 1 -/
  | queryTable (clear : Bool) (id row : BitVec 4)
  /-- START_DRUM (R91) -/
  | startDrum
  /-- START_PUMP (R132) -/
  | startPump
  /-- STOP_COAST_DRUM (R92, R94) -/
  | stopCoastDrum
  /-- STOP_BRAKE_DRUM (R92, R94) -/
  | stopBrakeDrum
  /-- STOP_COAST_PUMP (R142) -/
  | stopCoastPump
  /-- STOP_BRAKE_PUMP (R142) -/
  | stopBrakePump
  /-- CLEAR_DRUM (R98) -/
  | clearDrum
  /-- CLEAR_PUMP (R141) -/
  | clearPump
  /-- DRY_ON (R101, R142) -/
  | dryOn (motor : Motor)
  /-- DRY_OFF (R101, R142) -/
  | dryOff (motor : Motor)
  /-- REPORT_ON (R102, R142) -/
  | reportOn (motor : Motor)
  /-- REPORT_OFF (R102, R142) -/
  | reportOff (motor : Motor)
  /-- CLEAR_FLAGS (R154) -/
  | clearFlags
  /-- RESET (R156) -/
  | reset
  /-- FAULT_LINE_FALL (R16): FAULT_D or FAULT_P goes low -/
  | faultLineFall (motor : Motor)
  /-- FAULT_LINE_RISE (R14): FAULT_D or FAULT_P returns high -/
  | faultLineRise (motor : Motor)
  /-- ENABLE_TIME_REACHED (R10) at one phase -/
  | enableTimeReached (motor : Motor) (phase : Phase)
  /-- DRUM_PERIOD_START (R3), with the level on PERMIT it samples and the orders left open -/
  | drumPeriodStart (permit : Bool) (order : PeriodOrder)
  /-- PLAN_POINT (R24) -/
  | planPoint
  /-- PLAN_EDGE (R37) of one phase -/
  | planEdge (phase : Phase)
  /-- PUMP_PERIOD_START (R4); `schedulerFirst` is the order R133 leaves open at the 257th calibration period -/
  | pumpPeriodStart (schedulerFirst : Bool)
  /-- PUMP_PEAK (R134) -/
  | pumpPeak
  /-- PUMP_SPAN_EDGE (R111) -/
  | pumpSpanEdge
  /-- CONVERSION_START (R52) -/
  | conversionStart
  /-- CONVERSION_DONE (R45), with the code the converter yields; `first` is the state control that takes an
  over-temperature first (R80, log 5) -/
  | conversionDone (code : Code) (first : Motor)
  /-- REQUEST_EXPIRY (R54) -/
  | requestExpiry
  /-- DUE_COMMUTATION (R120) -/
  | dueCommutation
  /-- ZC_TIMEOUT (R121) -/
  | zcTimeout
  /-- RAMP_COMMUTATION (R135) -/
  | rampCommutation
  /-- CONTROL_UNKNOWN_CODE (R151), with the control code -/
  | controlUnknownCode (code : BitVec 8)
  /-- TABLE_UNKNOWN_ID (R151), with the table id -/
  | tableUnknownId (id : BitVec 4)
  /-- QUERY_UNKNOWN_PAGE (R164), with the page value, 8..15 -/
  | queryUnknownPage (page : BitVec 4)
  deriving DecidableEq, Repr, Inhabited

end Sys2Proof
end

