-- ==== Sys2Proof/Config.lean ====
section
/-! DEFINITION. The fixed constants of the part, and the free values the idle step draws (log 1, 4, 5, 8). -/

namespace Sys2Proof.Config

/-- Converter acquisition time Tacq, 16 ticks (00_scope, "Terms"; R45). -/
def acquisition : Nat := 16

/-- A conversion occupies the converter for 64 ticks (R45). -/
def conversionTicks : Nat := 64

/-- Capacity of the conversion request queue (R49). -/
def requestCapacity : Nat := 8

/-- Capacity of the Record Queue (R157). -/
def recordCapacity : Nat := 32

/-- Where a 16-bit counter for software saturates (00_scope, "Quantities and ranges"). -/
def counterMax : Nat := 65535

/-- Where a step interval saturates (R117). -/
def intervalMax : Nat := 16777215

/-- FREE VALUE (log 4): the code the converter yields where no CONVERSION_DONE command supplies one. -/
opaque converterCode : Nat → Code

/-- FREE VALUE (log 4): the level on PERMIT where no DRUM_PERIOD_START command supplies one. -/
opaque permitLevel : Nat → Bool

/-- FREE VALUE (log 5): the open orders of a drum period start that no command supplies. -/
opaque periodOrder : Nat → PeriodOrder

/-- FREE VALUE (log 5): the state control that takes an over-temperature first, where no command says. -/
opaque firstMotor : Nat → Motor

/-- FREE VALUE (log 5): the order of R133 at a pump period start that no command supplies. -/
opaque schedulerFirst : Nat → Bool

/-- FREE VALUE (log 8): the edge of LCLK, if there is one, that comes from outside while nothing is due in a frame. -/
opaque linkEdge : Nat → Option LinkEdge

end Sys2Proof.Config
end

