-- ==== Sys2Proof/WellFormed.lean ====
section
/-! DEFINITION. Which commands are well formed: the operands that a row's own condition rules out. -/

namespace Sys2Proof

/-- The control codes are 1..10 (R167, section 10.1). -/
def controlCodeKnown (code : BitVec 8) : Bool := decide (1 ≤ code.toNat ∧ code.toNat ≤ 10)

/-- The table ids are 1..5 (R167, section 10.1). -/
def tableIdKnown (id : BitVec 4) : Bool := decide (1 ≤ id.toNat ∧ id.toNat ≤ 5)

/-- The pages are 0..7 (R167, section 10.1). -/
def pageKnown (page : BitVec 4) : Bool := decide (page.toNat ≤ 7)

/-- The frame kinds are 0..7 (R167, section 10.1). -/
def kindKnown (kind : BitVec 4) : Bool := decide (kind.toNat ≤ 7)

/-- A command is well formed when its operands are ones its row can carry: a short frame has fewer than 128 bits
(R146), and the rows of unknown values carry values that name nothing (R151, R164). Every other operand may take
every value of its width: where a rule refuses or clamps a value, that is the command's meaning. -/
def Instr.wellFormed : Instr → Bool
  | .powerReset => true
  | .pinReset => true
  | .pinResetRelease => true
  | .frameBegin => true
  | .shortFrame bits => decide (bits < 128)
  | .breakFrame _ => true
  | .checkError => true
  | .unknownKind kind => !kindKnown kind
  | .fill => true
  | .setup _ _ => true
  | .duty _ => true
  | .pump _ _ => true
  | .rate _ _ => true
  | .tableInput _ _ _ _ _ => true
  | .tableCommutation _ _ _ _ _ => true
  | .tableProfile _ => true
  | .tableRamp _ _ _ _ => true
  | .tableRampLength _ => true
  | .queryLink _ => true
  | .queryDrum _ => true
  | .queryDrumSnap _ => true
  | .queryPump _ => true
  | .queryPumpRingA _ => true
  | .queryPumpRingB _ => true
  | .queryPumpSnap _ => true
  | .queryTable _ _ _ => true
  | .startDrum => true
  | .startPump => true
  | .stopCoastDrum => true
  | .stopBrakeDrum => true
  | .stopCoastPump => true
  | .stopBrakePump => true
  | .clearDrum => true
  | .clearPump => true
  | .dryOn _ => true
  | .dryOff _ => true
  | .reportOn _ => true
  | .reportOff _ => true
  | .clearFlags => true
  | .reset => true
  | .faultLineFall _ => true
  | .faultLineRise _ => true
  | .enableTimeReached _ _ => true
  | .drumPeriodStart _ _ => true
  | .planPoint => true
  | .planEdge _ => true
  | .pumpPeriodStart _ => true
  | .pumpPeak => true
  | .pumpSpanEdge => true
  | .conversionStart => true
  | .conversionDone _ _ => true
  | .requestExpiry => true
  | .dueCommutation => true
  | .zcTimeout => true
  | .rampCommutation => true
  | .controlUnknownCode code => !controlCodeKnown code
  | .tableUnknownId id => !tableIdKnown id
  | .queryUnknownPage page => !pageKnown page

end Sys2Proof
end

