-- ==== Sys2Proof/Decode.lean ====
section
/-! DEFINITION. What the table's bits spell (none: it gives no bits, log 28), and what the link carries: the frame
check, the decoder of a downstream frame and its encoder (R145 to R149, R151, R167). -/

namespace Sys2Proof

/-- opcode_table.json gives no row any bits, so no word spells a command (log 28). The downstream frames of
chapter 10 are decoded by `decodeFrame`. -/
def decodeTableWord (_nbits _w : Nat) : Option Instr := none

/-! ### The frame check (R147) -/

/-- One bit enters the check register (R147). -/
def crcBit (reg : Word) (bit : Bool) : Word :=
  if reg.msb != bit then (reg <<< 1) ^^^ 0x1021#16 else reg <<< 1

/-- The bits of a word in the order they are sent, most significant first (R145). -/
def wordBits (w : Word) : List Bool :=
  [w.getLsbD 15, w.getLsbD 14, w.getLsbD 13, w.getLsbD 12, w.getLsbD 11, w.getLsbD 10, w.getLsbD 9, w.getLsbD 8,
   w.getLsbD 7, w.getLsbD 6, w.getLsbD 5, w.getLsbD 4, w.getLsbD 3, w.getLsbD 2, w.getLsbD 1, w.getLsbD 0]

/-- The bits of a frame in the order they are sent: word 0 first, each word most significant bit first (R145). -/
def Frame.bits (f : Frame) : BitVec 128 := f.w0 ++ f.w1 ++ f.w2 ++ f.w3 ++ f.w4 ++ f.w5 ++ f.w6 ++ f.w7

/-- One word enters the check register, most significant bit first (R147). -/
def crcWord (reg w : Word) : Word := (wordBits w).foldl crcBit reg

/-- The check over words 0 to 6 (R147): the register starts at 0xFFFF, and there is no final inversion. -/
def crcOf (w0 w1 w2 w3 w4 w5 w6 : Word) : Word :=
  [w0, w1, w2, w3, w4, w5, w6].foldl crcWord 0xFFFF#16

/-- A frame of these seven words and their check (R147). -/
def sealFrame (w0 w1 w2 w3 w4 w5 w6 : Word) : Frame :=
  ⟨w0, w1, w2, w3, w4, w5, w6, crcOf w0 w1 w2 w3 w4 w5 w6⟩

/-- Word 7 agrees with the check over words 0 to 6 (R147). -/
def Frame.checks (f : Frame) : Bool := f.w7 == crcOf f.w0 f.w1 f.w2 f.w3 f.w4 f.w5 f.w6

/-- All 128 bits are 0: a break frame (R149). -/
def Frame.isBreak (f : Frame) : Bool := f == ⟨0, 0, 0, 0, 0, 0, 0, 0⟩

/-! ### The downstream frame (R151, R167, section 10.1) -/

/-- `len` bits of a word, the lowest of them bit `lo`. -/
def bitsAt (w : Word) (lo len : Nat) : BitVec len := w.extractLsb' lo len

/-- The motor select, bit 11 of word 0. -/
def motorSelect (w0 : Word) : Motor := if w0.getLsbD 11 then .pump else .drum

/-- A CONTROL frame by its control code and motor select (R151, section 10.1). -/
def decodeControl (w0 : Word) : Instr :=
  let code := bitsAt w0 0 8
  let motor := motorSelect w0
  match code.toNat, motor with
  | 1, .drum => .startDrum
  | 1, .pump => .startPump
  | 2, .drum => .stopCoastDrum
  | 2, .pump => .stopCoastPump
  | 3, .drum => .stopBrakeDrum
  | 3, .pump => .stopBrakePump
  | 4, .drum => .clearDrum
  | 4, .pump => .clearPump
  | 5, m => .dryOn m
  | 6, m => .dryOff m
  | 7, m => .reportOn m
  | 8, m => .reportOff m
  | 9, _ => .clearFlags
  | 10, _ => .reset
  | _, _ => .controlUnknownCode code

/-- A TABLE frame by its table id (R151, section 10.1). -/
def decodeTable (f : Frame) : Instr :=
  let id := bitsAt f.w0 4 4
  let row := bitsAt f.w0 0 4
  match id.toNat with
  | 1 => .tableCommutation row (bitsAt f.w1 12 2) (bitsAt f.w1 8 2) (bitsAt f.w1 4 2) (bitsAt f.w1 0 2)
  | 2 => .tableRamp row (bitsAt f.w1 0 8 ++ f.w2) (bitsAt f.w3 0 8) f.w4
  | 3 => .tableProfile ⟨f.w1, f.w2, bitsAt f.w3 0 8, bitsAt f.w4 12 4, bitsAt f.w4 8 4, bitsAt f.w4 4 4, bitsAt f.w4 0 3⟩
  | 4 => .tableInput row (bitsAt f.w1 8 2) (bitsAt f.w1 0 4) f.w2 f.w3
  | 5 => .tableRampLength (bitsAt f.w1 0 5)
  | _ => .tableUnknownId id

/-- A QUERY frame by its page (R164, section 10.1). -/
def decodeQuery (f : Frame) : Instr :=
  let clear := f.w0.getLsbD 4
  let page := bitsAt f.w0 0 4
  match page.toNat with
  | 0 => .queryLink clear
  | 1 => .queryDrum clear
  | 2 => .queryDrumSnap clear
  | 3 => .queryPump clear
  | 4 => .queryPumpRingA clear
  | 5 => .queryPumpRingB clear
  | 6 => .queryPumpSnap clear
  | 7 => .queryTable clear (bitsAt f.w1 4 4) (bitsAt f.w1 0 4)
  | _ => .queryUnknownPage page

/-- A full-length frame as the command it completes (R147, R149, R151, R167). `permit` and `first` are the operands
that no bit of the frame carries: the level on PERMIT at a SETUP and the order of R150 (log 4, 5). -/
def decodeFrame (permit : Bool) (first : Motor) (f : Frame) : Instr :=
  if f.isBreak then .breakFrame first
  else if !f.checks then .checkError
  else
    let kind := bitsAt f.w0 12 4
    match kind.toNat with
    | 0 => .fill
    | 1 => .setup ⟨f.w1, f.w2, f.w3, f.w4, bitsAt f.w5 8 8, bitsAt f.w5 0 8, bitsAt f.w6 12 4, bitsAt f.w6 7 5,
        f.w6.getLsbD 0⟩ permit
    | 2 => .duty ⟨f.w1, f.w2, f.w3⟩
    | 3 => .pump (bitsAt f.w0 0 2) f.w1
    | 4 => decodeControl f.w0
    | 5 => .rate f.w1 f.w2
    | 6 => decodeTable f
    | 7 => decodeQuery f
    | _ => .unknownKind kind

/-- Sixteen bits as a word, the first the most significant; missing bits read as 0. -/
def wordOfBits (bits : List Bool) : Word :=
  (bits.take 16).foldl (fun w b => (w <<< 1) ||| (BitVec.ofBool b).setWidth 16) 0

/-- The eight words of 128 bits, word 0 first (R145). -/
def frameOfBits (bits : List Bool) : Frame :=
  ⟨wordOfBits bits, wordOfBits (bits.drop 16), wordOfBits (bits.drop 32), wordOfBits (bits.drop 48),
   wordOfBits (bits.drop 64), wordOfBits (bits.drop 80), wordOfBits (bits.drop 96), wordOfBits (bits.drop 112)⟩

/-- The bits LCLK clocked in while LSEL was low, as the command their completion is: fewer than 128 bits are a short
frame, and bits after the 128th are ignored (R145, R146). -/
def decodeLine (permit : Bool) (first : Motor) (bits : List Bool) : Instr :=
  if bits.length < 128 then .shortFrame bits.length else decodeFrame permit first (frameOfBits bits)

/-! ### The encoder: the frame of a command, every bit that no field occupies at 0 (section 10.1) -/

/-- Word 0: kind in 15..12, motor select in 11, the kind's own bits in 10..0. -/
def headerWord (kind : BitVec 4) (motor : Motor) (rest : BitVec 11) : Word :=
  kind ++ (match motor with | .drum => 0#1 | .pump => 1#1) ++ rest

/-- A CONTROL frame (section 10.1). -/
def controlFrame (motor : Motor) (code : BitVec 8) : Frame :=
  sealFrame (headerWord 4 motor (0#3 ++ code)) 0 0 0 0 0 0

/-- A TABLE frame (section 10.1). -/
def tableFrame (id row : BitVec 4) (w1 w2 w3 w4 : Word) : Frame :=
  sealFrame (headerWord 6 .drum (0#3 ++ id ++ row)) w1 w2 w3 w4 0 0

/-- A QUERY frame (section 10.1). -/
def queryFrame (clear : Bool) (page : BitVec 4) (w1 : Word) : Frame :=
  sealFrame (headerWord 7 .drum (0#6 ++ BitVec.ofBool clear ++ page)) w1 0 0 0 0 0

/-- The frame whose completion is this command; none for the rows that are no frame, and for SHORT_FRAME and
CHECK_ERROR, which any damaged frame may be. -/
def encodeFrame : Instr → Option Frame
  | .breakFrame _ => some ⟨0, 0, 0, 0, 0, 0, 0, 0⟩
  | .unknownKind kind => some (sealFrame (headerWord kind .drum 0) 0 0 0 0 0 0)
  | .fill => some (sealFrame (headerWord 0 .drum 0) 0 0 0 0 0 0)
  | .setup f _ => some (sealFrame (headerWord 1 .drum 0) f.h f.hp f.tsettle f.lp (f.dt ++ f.threshold)
      (f.kmiss ++ f.divider ++ 0#6 ++ BitVec.ofBool f.brake))
  | .duty d => some (sealFrame (headerWord 2 .drum 0) d.a d.b d.c 0 0 0)
  | .pump direction duty => some (sealFrame (headerWord 3 .drum (0#9 ++ direction)) duty 0 0 0 0 0)
  | .rate h hp => some (sealFrame (headerWord 5 .drum 0) h hp 0 0 0 0)
  | .tableInput row source input offset trip => some (tableFrame 4 row (0#6 ++ source ++ 0#4 ++ input) offset trip 0)
  | .tableCommutation row high low floating polarity =>
      some (tableFrame 1 row (0#2 ++ high ++ 0#2 ++ low ++ 0#2 ++ floating ++ 0#2 ++ polarity) 0 0 0)
  | .tableProfile f => some (tableFrame 3 0 f.alignDuty f.alignPeriods (0#8 ++ f.alpha8)
      (f.blanking ++ f.nstable ++ f.kzc ++ 0#1 ++ f.startIndex))
  | .tableRamp row interval repeats duty =>
      some (tableFrame 2 row (0#8 ++ interval.extractLsb' 16 8) (interval.extractLsb' 0 16) (0#8 ++ repeats) duty)
  | .tableRampLength length => some (tableFrame 5 0 (0#11 ++ length) 0 0 0)
  | .queryLink clear => some (queryFrame clear 0 0)
  | .queryDrum clear => some (queryFrame clear 1 0)
  | .queryDrumSnap clear => some (queryFrame clear 2 0)
  | .queryPump clear => some (queryFrame clear 3 0)
  | .queryPumpRingA clear => some (queryFrame clear 4 0)
  | .queryPumpRingB clear => some (queryFrame clear 5 0)
  | .queryPumpSnap clear => some (queryFrame clear 6 0)
  | .queryTable clear id row => some (queryFrame clear 7 (0#8 ++ id ++ row))
  | .startDrum => some (controlFrame .drum 1)
  | .startPump => some (controlFrame .pump 1)
  | .stopCoastDrum => some (controlFrame .drum 2)
  | .stopBrakeDrum => some (controlFrame .drum 3)
  | .stopCoastPump => some (controlFrame .pump 2)
  | .stopBrakePump => some (controlFrame .pump 3)
  | .clearDrum => some (controlFrame .drum 4)
  | .clearPump => some (controlFrame .pump 4)
  | .dryOn m => some (controlFrame m 5)
  | .dryOff m => some (controlFrame m 6)
  | .reportOn m => some (controlFrame m 7)
  | .reportOff m => some (controlFrame m 8)
  | .clearFlags => some (controlFrame .drum 9)
  | .reset => some (controlFrame .drum 10)
  | .controlUnknownCode code => some (controlFrame .drum code)
  | .tableUnknownId id => some (tableFrame id 0 0 0 0 0)
  | .queryUnknownPage page => some (queryFrame false page 0)
  | .powerReset => none
  | .pinReset => none
  | .pinResetRelease => none
  | .frameBegin => none
  | .shortFrame _ => none
  | .checkError => none
  | .faultLineFall _ => none
  | .faultLineRise _ => none
  | .enableTimeReached _ _ => none
  | .drumPeriodStart _ _ => none
  | .planPoint => none
  | .planEdge _ => none
  | .pumpPeriodStart _ => none
  | .pumpPeak => none
  | .pumpSpanEdge => none
  | .conversionStart => none
  | .conversionDone _ _ => none
  | .requestExpiry => none
  | .dueCommutation => none
  | .zcTimeout => none
  | .rampCommutation => none

end Sys2Proof
end

