-- ==== Sys2Proof/Machine/State.lean ====
section
/-! DEFINITION. The state of the KX260: every piece of state the spec names (INVENTORY.md, "State"), block by block,
and its values after reset. -/

namespace Sys2Proof.Machine

/-- The reasons a step can stop with a fault: none. The spec gives every command an effect in every state, as a next
state, a result (R153) or a cause (R95, R140); so nothing raises a fault. -/
inductive Fault where
  deriving DecidableEq, Repr

/-- The reasons a step can be refused. -/
inductive Refusal where
  /-- Raised by `exec` for a command whose meaning is not written yet; safe, since nothing can then be proved of a
  next state. No command is refused. -/
  | notModelled (mnemonic : String)
  deriving DecidableEq, Repr

/-- What a step answers. -/
abbrev Answer (σ : Type) := Host.Outcome σ Fault Refusal

/-! ### Timebase and carriers -/

/-- The Timebase (R1). -/
structure Timebase where
  running : Bool
  tick : Tick
  stepTick : Tick
  deriving DecidableEq, Repr, Inhabited

/-- The Drum Carrier (R3, R8). `pos` is the distance in ticks from the period start, 0..2H; the counter and its
direction are computed from it. -/
structure DrumCarrier where
  pos : Nat
  half : Nat
  pendingHalf : Nat
  latchedHalf : Nat
  period : Word
  /-- the plan point of this period has been taken (log 16) -/
  planTaken : Bool
  deriving DecidableEq, Repr, Inhabited

/-- The Pump Carrier (R4, R9). -/
structure PumpCarrier where
  pos : Nat
  half : Nat
  pendingHalf : Nat
  period : Word
  /-- the peak of this period has been taken (log 16) -/
  peakTaken : Bool
  deriving DecidableEq, Repr, Inhabited

/-- The SETUP store (R6, R28, R83, R148, R155). -/
structure SetupStore where
  h : Nat
  hp : Nat
  dt : Nat
  tsettle : Nat
  lp : Nat
  kmiss : Nat
  /-- the drum safe action: BRAKE if set, COAST if clear -/
  brake : Bool
  divider : Nat
  threshold : Nat
  deriving DecidableEq, Repr, Inhabited

/-! ### Gate Output Stage and Input Conditioner -/

/-- A phase's commanded state (R10). -/
inductive Drive where
  | high
  | low
  | float
  deriving DecidableEq, Repr, Inhabited

/-- A phase's enable time (R10). -/
inductive Enable where
  | absent
  | at (t : Tick)
  | reached
  deriving DecidableEq, Repr, Inhabited

/-- A phase record of the Gate Output Stage (R10). -/
structure PhaseRecord where
  commanded : Drive
  enable : Enable
  high : Bool
  low : Bool
  deriving DecidableEq, Repr, Inhabited

/-- The Input Conditioner (R16, R17). -/
structure InputConditioner where
  /-- FAULT_D is active (low) -/
  faultD : Bool
  /-- FAULT_P is active (low) -/
  faultP : Bool
  /-- the latest PERMIT samples, at most three, oldest first; set for ACTIVE -/
  history : List Bool
  /-- the validated permit is ACTIVE -/
  permit : Bool
  deriving DecidableEq, Repr, Inhabited

/-! ### Drum Planner -/

/-- The span of a window, in ticks from the start of the period served (R38): from `start` up to, not including, `stop`. -/
structure Span where
  start : Nat
  stop : Nat
  deriving DecidableEq, Repr, Inhabited

/-- The earliest and latest start of a plan's request, in ticks from the start of the period served (R38, R40). -/
structure RequestSpan where
  earliest : Nat
  latest : Nat
  deriving DecidableEq, Repr, Inhabited

/-- The order of the phases by applied on-time, max, mid, min (R31). -/
inductive Ranking where
  | abc
  | acb
  | bac
  | bca
  | cab
  | cba
  deriving DecidableEq, Repr, Inhabited

/-- The plan record (R39). A window that is SHORT is `none`, and its request is absent. -/
structure Plan where
  period : Word
  half : Nat
  onTime : PerPhase Nat
  ranking : Ranking
  up : PerPhase Nat
  down : PerPhase Nat
  window1 : Option Span
  window2 : Option Span
  request1 : Option RequestSpan
  request2 : Option RequestSpan
  trimmed : Bool
  shift1 : Bool
  shift2 : Bool
  short1 : Bool
  short2 : Bool
  deriving DecidableEq, Repr, Inhabited

/-- The Drum Planner (R19). -/
structure Planner where
  slot : Option (PerPhase Word)
  lastApplied : PerPhase Word
  misses : Nat
  prepared : Option Plan
  inForce : Option Plan
  deriving DecidableEq, Repr, Inhabited

/-! ### Converter Scheduler -/

/-- The block a conversion request serves (R47). -/
inductive Owner where
  | drum
  | pump
  | house
  deriving DecidableEq, Repr, Inhabited

/-- What a conversion measures (R47). -/
inductive Measurand where
  | drumShunt
  | pumpShunt
  | bus
  | pumpVa
  | pumpVb
  | pumpVc
  | temp
  | aux
  deriving DecidableEq, Repr, Inhabited

/-- The row of a measurand in the input assignment table (section 10.1). -/
def Measurand.index : Measurand → Fin 8
  | .drumShunt => 0
  | .pumpShunt => 1
  | .bus => 2
  | .pumpVa => 3
  | .pumpVb => 4
  | .pumpVc => 5
  | .temp => 6
  | .aux => 7

/-- A conversion request (R47). -/
structure Request where
  owner : Owner
  measurand : Measurand
  period : Word
  window : Nat
  earliest : Tick
  latest : Tick
  deriving DecidableEq, Repr, Inhabited

/-- The conversion record of a busy converter (R45). -/
structure Conversion where
  request : Request
  input : Option (Fin 8)
  start : Tick
  startStep : Tick
  deriving DecidableEq, Repr, Inhabited

/-- Whether calibration may write a row's offset code (R60). -/
inductive OffsetSource where
  | calibrate
  | fixed
  deriving DecidableEq, Repr, Inhabited

/-- A row of the input assignment table (R60); the input NONE is `none`. -/
structure InputRow where
  input : Option (Fin 8)
  source : OffsetSource
  offset : Code
  trip : Code
  deriving DecidableEq, Repr, Inhabited

/-- Why a request was lost (R55). -/
inductive LostReason where
  | queueFull
  | converterBusy
  | superseded
  | unassigned
  deriving DecidableEq, Repr, Inhabited

/-- The Converter Scheduler (R45, R49, R59, R60, R66). -/
structure Scheduler where
  converter : Option Conversion
  queue : List Request
  table : Vector InputRow 8
  busReading : Nat
  lostDrum : Nat
  lostPump : Nat
  deriving DecidableEq, Repr

/-! ### Drum Reconstructor -/

/-- A window slot of a period entry (R70): a code with its raw code and corrected value. -/
inductive WindowSlot where
  | notRequested
  | awaited
  | code (raw : Code) (value : Int)
  | lost (reason : LostReason)
  deriving DecidableEq, Repr, Inhabited

/-- A bus, temperature or auxiliary slot (R70): a corrected value. -/
inductive HouseSlot where
  | notRequested
  | awaited
  | value (v : Nat)
  | lost (reason : LostReason)
  deriving DecidableEq, Repr, Inhabited

/-- The open entry of a drum period (R70); `openedAt` is the tick of the period start that opened it (R72, log 16). -/
structure PeriodEntry where
  period : Word
  openedAt : Tick
  plan : Plan
  window1 : WindowSlot
  window2 : WindowSlot
  bus : HouseSlot
  deriving DecidableEq, Repr, Inhabited

/-- The open house entry (R70). -/
structure HouseEntry where
  period : Word
  openedAt : Tick
  bus : HouseSlot
  temp : HouseSlot
  aux : HouseSlot
  deriving DecidableEq, Repr, Inhabited

/-- The Drum Reconstructor (R70). -/
structure Reconstructor where
  lastFresh : PerPhase Int
  periodEntry : Option PeriodEntry
  houseEntry : Option HouseEntry
  overRun : Nat
  heldRun : Nat
  busHighRun : Nat
  /-- the bus-high episode is ACTIVE -/
  busHighActive : Bool
  overTempRun : Nat
  deriving DecidableEq, Repr, Inhabited

/-! ### Drum State Control -/

/-- The drum states (R89). -/
inductive DrumState where
  | off
  | offset
  | ready
  | run
  | brake
  | safe
  deriving DecidableEq, Repr, Inhabited

/-- The causes of both motors (R89, R128). -/
inductive Cause where
  | lateDuty
  | overcurrent
  | permit
  | gateFault
  | overTemp
  | linkBreak
  | offsetRange
  | stall
  | startFail
  deriving DecidableEq, Repr, Inhabited

/-- The set of further causes: the three that can arise in SAFE, each held at most once (R97, R141). -/
structure FurtherCauses where
  permit : Bool
  gateFault : Bool
  linkBreak : Bool
  deriving DecidableEq, Repr, Inhabited

/-- A cause record that is not empty (R89). -/
structure CauseRecord where
  first : Cause
  further : FurtherCauses
  deriving DecidableEq, Repr, Inhabited

/-- A pending stop (R89). -/
inductive StopKind where
  | coast
  | brake
  deriving DecidableEq, Repr, Inhabited

/-- The offset calibration bookkeeping (R85, R133). -/
structure Calibration where
  sum : Nat
  codes : Nat
  periods : Nat
  period : Option Word
  deriving DecidableEq, Repr, Inhabited

/-- The drum snapshot (R99). -/
structure DrumSnapshot where
  period : Word
  cause : CauseRecord
  currents : PerPhase Int
  misses : Nat
  before : DrumState
  deriving DecidableEq, Repr, Inhabited

/-- Drum State Control (R85, R89). -/
structure DrumControl where
  state : DrumState
  stopPending : Option StopKind
  cause : Option CauseRecord
  dry : Bool
  report : Bool
  snapshot : Option DrumSnapshot
  calib : Calibration
  deriving DecidableEq, Repr, Inhabited

/-! ### Pump Commutator -/

/-- The polarity of a crossing (R106). -/
inductive Polarity where
  | falling
  | rising
  deriving DecidableEq, Repr, Inhabited

/-- A row of the commutation table (R106). -/
structure CommutationRow where
  high : Phase
  low : Phase
  floating : Phase
  polarity : Polarity
  deriving DecidableEq, Repr, Inhabited

/-- The direction of the pump (R109). -/
inductive Direction where
  | forward
  | reverse
  deriving DecidableEq, Repr, Inhabited

/-- A detection mark (R113). -/
structure DetectionMark where
  period : Word
  examined : Bool
  deriving DecidableEq, Repr, Inhabited

/-- The Pump Commutator (R105), with the on-time Tp of the pump period in progress (R110). -/
structure Commutator where
  table : Vector CommutationRow 6
  stepIndex : Fin 6
  direction : Direction
  /-- at most two, oldest first -/
  marks : List DetectionMark
  blanking : Nat
  zcRun : Nat
  firstSample : Option Tick
  stepZc : Option Tick
  lastZc : Option Tick
  /-- at most six, oldest first -/
  ring : List Nat
  lastCommutation : Option Tick
  due : Option Tick
  deadline : Option Tick
  zcMisses : Nat
  onTime : Nat
  deriving DecidableEq, Repr

/-! ### Pump State Control -/

/-- The pump states (R128). -/
inductive PumpState where
  | off
  | offset
  | align
  | ramp
  | closed
  | safe
  deriving DecidableEq, Repr, Inhabited

/-- The start profile (R129). -/
structure StartProfile where
  alignDuty : Word
  alignPeriods : Nat
  alpha8 : Nat
  blanking : Nat
  nstable : Nat
  kzc : Nat
  startIndex : Fin 6
  deriving DecidableEq, Repr, Inhabited

/-- A row of the ramp table (R129). -/
structure RampRow where
  interval : Nat
  repeats : Nat
  duty : Word
  deriving DecidableEq, Repr, Inhabited

/-- The ramp position (R128): the row timing the step in progress and the steps it has timed. -/
structure RampPosition where
  row : Fin 16
  repeats : Nat
  deriving DecidableEq, Repr, Inhabited

/-- The pump snapshot (R143). -/
structure PumpSnapshot where
  period : Word
  cause : CauseRecord
  stepIndex : Fin 6
  before : PumpState
  lastInterval : Option Nat
  lastMean : Option Int
  deriving DecidableEq, Repr, Inhabited

/-- Pump State Control (R128). -/
structure PumpControl where
  state : PumpState
  profile : StartProfile
  ramp : Vector RampRow 16
  rampLength : Nat
  alignCount : Nat
  rampPosition : Option RampPosition
  rampTime : Option Tick
  stable : Nat
  dutyInForce : Word
  pendingDuty : Option Word
  currentSum : Int
  currentCount : Nat
  alignEntry : Option Tick
  /-- pump period starts since the latest entry to ALIGN, counted up to 2 (R138, log 16) -/
  alignStarts : Nat
  overRun : Nat
  calib : Calibration
  cause : Option CauseRecord
  dry : Bool
  report : Bool
  snapshot : Option PumpSnapshot
  deriving DecidableEq, Repr

/-! ### Records (chapter 9) -/

/-- The cause of a reset (R155). -/
inductive ResetCause where
  | power
  | pin
  | command
  deriving DecidableEq, Repr, Inhabited

/-- The result of a frame (R153). -/
inductive Result where
  | none
  | ok
  | okClamped
  | checkError
  | lengthError
  | unknownKind
  | notSetUp
  | busy
  | badState
  | badArgument
  | tableInvalid
  | notAssigned
  | noPermit
  | broke
  deriving DecidableEq, Repr, Inhabited

/-- The eight sticky flags (R154). -/
structure StickyFlags where
  checkErr : Bool
  lengthErr : Bool
  refused : Bool
  overrun : Bool
  dutyOverwrite : Bool
  linkDegraded : Bool
  snapshotLost : Bool
  broke : Bool
  deriving DecidableEq, Repr, Inhabited

/-- The link states (R152). -/
inductive LinkState where
  | awaitSetup
  | ready
  deriving DecidableEq, Repr, Inhabited

/-- A DRUM record (R81); an absent bus code is `none`. -/
structure DrumRecord where
  period : Word
  currents : PerPhase Int
  bus : Option Nat
  fresh : Bool
  short1 : Bool
  short2 : Bool
  lost1 : Bool
  lost2 : Bool
  shift1 : Bool
  shift2 : Bool
  trimmed : Bool
  busHigh : Bool
  dry : Bool
  deriving DecidableEq, Repr, Inhabited

/-- The kind of a commutation (R124). -/
inductive StepKind where
  | accepted
  | forced
  | ramp
  deriving DecidableEq, Repr, Inhabited

/-- A PUMP_STEP record (R125). -/
structure StepRecord where
  period : Word
  stepIndex : Fin 6
  interval : Option Nat
  kind : StepKind
  mean : Option Int
  count : Nat
  deriving DecidableEq, Repr, Inhabited

/-- A HOUSE record (R84). -/
structure HouseRecord where
  period : Word
  bus : Option Nat
  temp : Option Nat
  aux : Option Nat
  deriving DecidableEq, Repr, Inhabited

/-- A notice's code with its fields (R163). STATE and SAFE_ENTRY are written once for each motor. -/
inductive Notice where
  | reset (cause : ResetCause)
  | drumState (state : DrumState)
  | pumpState (state : PumpState)
  | safeEntry (motor : Motor) (cause : Cause)
  | lateDuty (period : Word)
  | drumBlind (period : Word)
  | zcMiss (period : Word) (stepIndex : Fin 6)
  | busHigh (period : Word) (code : Nat)
  | linkDegraded (threshold : Nat)
  | linkBreak
  | offsetDone (motor : Motor) (offset : Nat)
  deriving DecidableEq, Repr, Inhabited

/-- The content of the LINK page (R165). -/
structure LinkPage where
  state : LinkState
  cause : ResetCause
  checkErrors : Nat
  lengthErrors : Nat
  lostRecords : Nat
  flags : StickyFlags
  deriving DecidableEq, Repr, Inhabited

/-- The content of the DRUM page (R165). -/
structure DrumPage where
  state : DrumState
  stopPending : Option StopKind
  cause : Option CauseRecord
  misses : Nat
  offset : Code
  period : Word
  lostConversions : Nat
  dry : Bool
  report : Bool
  deriving DecidableEq, Repr, Inhabited

/-- The content of the PUMP page (R165). -/
structure PumpPage where
  state : PumpState
  stepIndex : Fin 6
  direction : Direction
  stable : Nat
  zcMisses : Nat
  lostConversions : Nat
  cause : Option CauseRecord
  dry : Bool
  report : Bool
  deriving DecidableEq, Repr, Inhabited

/-- A row read back by the TABLE page (R165). -/
inductive TableContent where
  | commutation (row : CommutationRow)
  | ramp (row : RampRow)
  | profile (profile : StartProfile)
  | rampLength (length : Nat)
  | input (row : InputRow)
  deriving DecidableEq, Repr, Inhabited

/-- A status page as it stood when it was composed (R164, R165). -/
inductive StatusPage where
  | link (page : LinkPage)
  | drum (page : DrumPage)
  | drumSnap (snapshot : Option DrumSnapshot)
  | pump (page : PumpPage)
  | ringA (first second third : Option Nat)
  | ringB (first second third : Option Nat)
  | pumpSnap (snapshot : Option PumpSnapshot)
  | table (id row : BitVec 4) (content : TableContent)
  deriving DecidableEq, Repr, Inhabited

/-- A record of the Record Queue (R157). A notice carries the drum period and tick offset it joined at (R163). -/
inductive Record where
  | drum (r : DrumRecord)
  | step (r : StepRecord)
  | house (r : HouseRecord)
  | notice (n : Notice) (period : Word) (offset : Nat)
  | status (page : StatusPage)
  deriving DecidableEq, Repr, Inhabited

/-- The Record Queue (R157). -/
structure RecordQueue where
  /-- at most 32, oldest first -/
  records : List Record
  lost : Nat
  gap : Bool
  /-- the oldest record is being sent in the frame in progress -/
  inTransit : Bool
  deriving DecidableEq, Repr, Inhabited

/-! ### Link Port -/

/-- The frame in progress (R145, R159, R160): its upstream content, fixed at the falling edge of LSEL. -/
structure FrameInProgress where
  upstream : Frame
  /-- the gap mark its header carries -/
  headerGap : Bool
  /-- a record was displaced during the frame -/
  displaced : Bool
  deriving DecidableEq, Repr, Inhabited

/-- The Link Port (R145 to R156); the SETUP store it holds is a part of its own. -/
structure LinkPort where
  state : LinkState
  result : Result
  flags : StickyFlags
  checkErrors : Nat
  lengthErrors : Nat
  breakRun : Nat
  resetCause : ResetCause
  bitCount : Nat
  /-- the receive shift register: the latest bit sampled is bit 0 -/
  shift : BitVec 128
  frame : Option FrameInProgress
  ldo : Bool
  /-- RESET_N is high -/
  resetN : Bool
  /-- LSEL is low -/
  selected : Bool
  deriving DecidableEq, Repr, Inhabited

/-! ### The whole part -/

/-- The state of the part, with the queue of waiting commands (`pending`) and the counter the free constants of
Config are applied to (`freeCount`), which are the model's own. -/
structure State where
  time : Timebase
  drumCar : DrumCarrier
  pumpCar : PumpCarrier
  setup : SetupStore
  drumGates : PerPhase PhaseRecord
  pumpGates : PerPhase PhaseRecord
  input : InputConditioner
  planner : Planner
  sched : Scheduler
  recon : Reconstructor
  drum : DrumControl
  comm : Commutator
  pump : PumpControl
  link : LinkPort
  rq : RecordQueue
  pending : List Instr
  freeCount : Nat
  deriving DecidableEq, Repr

/-! ### Values after reset -/

/-- A phase record after reset (R10). -/
def PhaseRecord.idle : PhaseRecord := ⟨.float, .absent, false, false⟩

/-- The three phase records of a motor after reset (R10). -/
def idleGates : PerPhase PhaseRecord := ⟨.idle, .idle, .idle⟩

/-- The SETUP store after reset (R155). -/
def SetupStore.default : SetupStore := ⟨2500, 2000, 80, 120, 200, 3, false, 1, 16⟩

/-- The input assignment table after reset (R60). -/
def defaultInputTable : Vector InputRow 8 :=
  #v[⟨some 0, .calibrate, 2048, 3000⟩, ⟨some 1, .calibrate, 2048, 3000⟩, ⟨some 2, .fixed, 0, 3900⟩,
     ⟨some 3, .fixed, 0, 0⟩, ⟨some 4, .fixed, 0, 0⟩, ⟨some 5, .fixed, 0, 0⟩, ⟨some 6, .fixed, 0, 3500⟩,
     ⟨some 7, .fixed, 0, 0⟩]

/-- The commutation table after reset (R106). -/
def defaultCommutationTable : Vector CommutationRow 6 :=
  #v[⟨.a, .b, .c, .falling⟩, ⟨.a, .c, .b, .rising⟩, ⟨.b, .c, .a, .falling⟩, ⟨.b, .a, .c, .rising⟩,
     ⟨.c, .a, .b, .falling⟩, ⟨.c, .b, .a, .rising⟩]

/-- The start profile after reset (R129). -/
def StartProfile.default : StartProfile := ⟨6000, 2000, 64, 2, 8, 4, 0⟩

/-- Row 3 of the default ramp table, which rows 4 to 15 repeat (R129). -/
def lastRampRow : RampRow := ⟨9000, 24, 16000⟩

/-- The ramp table after reset (R129). -/
def defaultRampTable : Vector RampRow 16 :=
  #v[⟨40000, 12, 8000⟩, ⟨25000, 12, 10000⟩, ⟨15000, 18, 13000⟩, lastRampRow, lastRampRow, lastRampRow, lastRampRow,
     lastRampRow, lastRampRow, lastRampRow, lastRampRow, lastRampRow, lastRampRow, lastRampRow, lastRampRow,
     lastRampRow]

/-- Calibration bookkeeping after reset and at a START that calibrates (R85, R133). -/
def Calibration.zero : Calibration := ⟨0, 0, 0, none⟩

/-- No sticky flag set (R154). -/
def StickyFlags.clear : StickyFlags := ⟨false, false, false, false, false, false, false, false⟩

/-- The RESET notice as it joins the emptied queue: period number and offset 0 (R157, R163). -/
def resetNotice (cause : ResetCause) : Record := .notice (.reset cause) 0 0

/-- The machine after power-on: every block at its values after reset, the RESET notice with cause POWER in the
Record Queue (R157). The levels on the lines are the model's choice (log 9). -/
def State.reset : State where
  time := ⟨false, 0, 0⟩
  drumCar := ⟨0, 2500, 2500, 2500, 0, false⟩
  pumpCar := ⟨0, 2000, 2000, 0, false⟩
  setup := .default
  drumGates := idleGates
  pumpGates := idleGates
  input := ⟨false, false, [], false⟩
  planner := ⟨none, ⟨0, 0, 0⟩, 0, none, none⟩
  sched := ⟨none, [], defaultInputTable, 0, 0, 0⟩
  recon := ⟨⟨0, 0, 0⟩, none, none, 0, 0, 0, false, 0⟩
  drum := ⟨.off, none, none, false, true, none, .zero⟩
  comm := ⟨defaultCommutationTable, 0, .forward, [], 0, 0, none, none, none, [], none, none, none, 0, 0⟩
  pump := ⟨.off, .default, defaultRampTable, 4, 0, none, none, 0, 0, none, 0, 0, none, 0, 0, .zero, none, false,
    true, none⟩
  link := ⟨.awaitSetup, .none, .clear, 0, 0, 0, .power, 0, 0, none, false, true, false⟩
  rq := ⟨[resetNotice .power], 0, false, false⟩
  pending := []
  freeCount := 0

/-! ### One update for each part of State -/

/-- `s` with its `time` replaced. -/
def State.withTime (s : State) (x : Timebase) : State := { s with time := x }

/-- `s` with its `drumCar` replaced. -/
def State.withDrumCar (s : State) (x : DrumCarrier) : State := { s with drumCar := x }

/-- `s` with its `pumpCar` replaced. -/
def State.withPumpCar (s : State) (x : PumpCarrier) : State := { s with pumpCar := x }

/-- `s` with its `setup` replaced. -/
def State.withSetup (s : State) (x : SetupStore) : State := { s with setup := x }

/-- `s` with its `drumGates` replaced. -/
def State.withDrumGates (s : State) (x : PerPhase PhaseRecord) : State := { s with drumGates := x }

/-- `s` with its `pumpGates` replaced. -/
def State.withPumpGates (s : State) (x : PerPhase PhaseRecord) : State := { s with pumpGates := x }

/-- `s` with its `input` replaced. -/
def State.withInput (s : State) (x : InputConditioner) : State := { s with input := x }

/-- `s` with its `planner` replaced. -/
def State.withPlanner (s : State) (x : Planner) : State := { s with planner := x }

/-- `s` with its `sched` replaced. -/
def State.withSched (s : State) (x : Scheduler) : State := { s with sched := x }

/-- `s` with its `recon` replaced. -/
def State.withRecon (s : State) (x : Reconstructor) : State := { s with recon := x }

/-- `s` with its `drum` replaced. -/
def State.withDrum (s : State) (x : DrumControl) : State := { s with drum := x }

/-- `s` with its `comm` replaced. -/
def State.withComm (s : State) (x : Commutator) : State := { s with comm := x }

/-- `s` with its `pump` replaced. -/
def State.withPump (s : State) (x : PumpControl) : State := { s with pump := x }

/-- `s` with its `link` replaced. -/
def State.withLink (s : State) (x : LinkPort) : State := { s with link := x }

/-- `s` with its `rq` replaced. -/
def State.withRq (s : State) (x : RecordQueue) : State := { s with rq := x }

/-- `s` with its `pending` replaced. -/
def State.withPending (s : State) (x : List Instr) : State := { s with pending := x }

/-- `s` with its `freeCount` replaced. -/
def State.withFreeCount (s : State) (x : Nat) : State := { s with freeCount := x }

end Sys2Proof.Machine
end

