-- ==== Sys2Proof/Machine/Flags.lean ====
section
/-! DEFINITION. The sticky flags (R154), the groups of results (R153) and the summary of the upstream header (R162). -/

namespace Sys2Proof.Machine

/-- The results of a refused frame (R153). -/
def Result.refused : Result → Bool
  | .unknownKind => true
  | .notSetUp => true
  | .busy => true
  | .badState => true
  | .badArgument => true
  | .tableInvalid => true
  | .notAssigned => true
  | .noPermit => true
  | .none => false
  | .ok => false
  | .okClamped => false
  | .checkError => false
  | .lengthError => false
  | .broke => false

/-- OK_CLAMPED if a field was clamped, OK otherwise (R6, R7, R61, R130). -/
def takenResult (clamped : Bool) : Result := if clamped then .okClamped else .ok

/-- Some sticky flag is set (R162). -/
def StickyFlags.any (f : StickyFlags) : Bool :=
  f.checkErr || f.lengthErr || f.refused || f.overrun || f.dutyOverwrite || f.linkDegraded || f.snapshotLost || f.broke

/-- `s` with its sticky flags replaced (R154). -/
def State.withFlags (s : State) (f : StickyFlags) : State := s.withLink { s.link with flags := f }

/-- Sets CHECK_ERR (R147). -/
def setCheckErr (s : State) : State := s.withFlags { s.link.flags with checkErr := true }

/-- Sets LENGTH_ERR (R146). -/
def setLengthErr (s : State) : State := s.withFlags { s.link.flags with lengthErr := true }

/-- Sets REFUSED (R153). -/
def setRefused (s : State) : State := s.withFlags { s.link.flags with refused := true }

/-- Sets OVERRUN (R158). -/
def setOverrun (s : State) : State := s.withFlags { s.link.flags with overrun := true }

/-- Sets DUTY_OVERWRITE (R21). -/
def setDutyOverwrite (s : State) : State := s.withFlags { s.link.flags with dutyOverwrite := true }

/-- Sets LINK_DEGRADED (R148). -/
def setLinkDegraded (s : State) : State := s.withFlags { s.link.flags with linkDegraded := true }

/-- Sets SNAPSHOT_LOST (R99, R143). -/
def setSnapshotLost (s : State) : State := s.withFlags { s.link.flags with snapshotLost := true }

/-- Sets BREAK (R150). -/
def setBroke (s : State) : State := s.withFlags { s.link.flags with broke := true }

/-- The summary of the upstream header: some sticky flag is set, or a motor is in SAFE (R162). -/
def summary (s : State) : Bool :=
  s.link.flags.any || decide (s.drum.state = .safe) || decide (s.pump.state = .safe)

/-- The result of the last frame becomes `r`; a refusal sets REFUSED (R153). -/
def setResult (r : Result) (s : State) : State :=
  let t := if r.refused then setRefused s else s
  t.withLink { t.link with result := r }

end Sys2Proof.Machine
end

