-- ==== Sys2Proof/Machine/Ops.lean ====
section
/-! DEFINITION. Operations every block uses: times and their order (R2), saturating counters, the Record Queue
(R157 to R160) and notices (R163). -/

namespace Sys2Proof.Machine

/-! ### Times (R1, R2) -/

/-- The forward distance from `x` to `now`, modulo 2^32 (R2). -/
def distance (x now : Tick) : Nat := (now - x).toNat

/-- The time `x` has been reached at `now` (R2). -/
def reached (x now : Tick) : Bool := decide (distance x now < 2 ^ 31)

/-- The time `x` has been passed at `now` (R2). The same test orders two stored times: `x` comes before `now`. -/
def passed (x now : Tick) : Bool := reached x now && x != now

/-- The time `n` counts after `t`; it wraps (R1). -/
def later (t : Tick) (n : Nat) : Tick := t + BitVec.ofNat 32 n

/-- A stored time, if there is one, has been reached (R2). -/
def reachedTime (t : Option Tick) (now : Tick) : Bool :=
  match t with
  | some x => reached x now
  | none => false

/-! ### Counters (00_scope, "Quantities and ranges") -/

/-- A 16-bit counter for software counts one; it saturates at 65535. -/
def countUp (n : Nat) : Nat := min (n + 1) Config.counterMax

/-- A run counts one, up to `top`, where it stops (R76, R78 to R80, R139). -/
def runUp (top n : Nat) : Nat := min (n + 1) top

/-! ### Presence (section 3.2, "NONE") -/

/-- The row of a measurand in the input assignment table (R60). -/
def inputRow (m : Measurand) (s : State) : InputRow := s.sched.table[m.index]

/-- The measurand's row names an input (R48). -/
def assigned (m : Measurand) (s : State) : Bool := (inputRow m s).input.isSome

/-! ### The Record Queue (R157, R158) -/

/-- The queue without its oldest record that is not in transit (R158). -/
def displaceOldest (q : RecordQueue) : List Record :=
  if q.inTransit then
    match q.records with
    | [] => []
    | head :: rest => head :: rest.tail
  else q.records.tail

/-- A displacement is remembered by the frame in progress, for the gap mark (R160). -/
def markDisplaced (s : State) : State :=
  s.withLink { s.link with frame := s.link.frame.map fun f => { f with displaced := true } }

/-- A record joins the Record Queue; a full queue gives up its oldest record not in transit, which is counted, sets
OVERRUN and the gap mark (R158). -/
def joinRecord (r : Record) (s : State) : State :=
  if s.rq.records.length < Config.recordCapacity then
    s.withRq { s.rq with records := s.rq.records ++ [r] }
  else
    markDisplaced (setOverrun (s.withRq
      { s.rq with records := displaceOldest s.rq ++ [r], lost := countUp s.rq.lost, gap := true }))

/-! ### Notices (R163) -/

/-- The drum period start of this tick is still to be taken: the position has come to 2H (R3). -/
def drumStartDue (s : State) : Bool := s.time.running && decide (2 * s.drumCar.half ≤ s.drumCar.pos)

/-- The pump period start of this tick is still to be taken (R4). -/
def pumpStartDue (s : State) : Bool := s.time.running && decide (2 * s.pumpCar.half ≤ s.pumpCar.pos)

/-- The number of the drum period in progress; at the tick of a period start, the period beginning there, also while
that event is still to be taken (R99, R163; log 15). -/
def stampPeriod (s : State) : Word := if drumStartDue s then s.drumCar.period + 1 else s.drumCar.period

/-- The tick offset from the start of that period (R163; log 15). -/
def stampOffset (s : State) : Nat := if drumStartDue s then 0 else s.drumCar.pos

/-- A notice joins the Record Queue with its time stamp (R163). -/
def joinNotice (n : Notice) (s : State) : State := joinRecord (.notice n (stampPeriod s) (stampOffset s)) s

end Sys2Proof.Machine
end

