-- ==== Sys2Proof/Machine/Gates.lean ====
section
/-! DEFINITION. The Gate Output Stage: commands, dead time and forcing (R10 to R15). -/

namespace Sys2Proof

/-- The value of one phase. -/
def PerPhase.get {α : Type} (v : PerPhase α) : Phase → α
  | .a => v.a
  | .b => v.b
  | .c => v.c

/-- The values with that of one phase replaced. -/
def PerPhase.set {α : Type} (v : PerPhase α) (x : Phase) (y : α) : PerPhase α :=
  match x with
  | .a => { v with a := y }
  | .b => { v with b := y }
  | .c => { v with c := y }

/-- A function applied to each phase's value. -/
def PerPhase.map {α β : Type} (v : PerPhase α) (f : α → β) : PerPhase β := ⟨f v.a, f v.b, f v.c⟩

end Sys2Proof

namespace Sys2Proof.Machine

/-- The phase records of a motor (R10). -/
def gatesOf (m : Motor) (s : State) : PerPhase PhaseRecord :=
  match m with
  | .drum => s.drumGates
  | .pump => s.pumpGates

/-- `s` with the phase records of a motor replaced. -/
def withGates (m : Motor) (g : PerPhase PhaseRecord) (s : State) : State :=
  match m with
  | .drum => s.withDrumGates g
  | .pump => s.withPumpGates g

/-- Which sides of a motor's phases the present forcing causes hold off (section 1.4). -/
structure Forcing where
  high : Bool
  low : Bool
  deriving DecidableEq, Repr, Inhabited

/-- The motor's FAULT line is active (R16). -/
def faultActive (m : Motor) (s : State) : Bool :=
  match m with
  | .drum => s.input.faultD
  | .pump => s.input.faultP

/-- The motor's dry-run flag is set (R101, R142). -/
def dryRun (m : Motor) (s : State) : Bool :=
  match m with
  | .drum => s.drum.dry
  | .pump => s.pump.dry

/-- The present forcing of a motor's outputs (R13): its FAULT line and its dry-run flag hold off all six, an INACTIVE
validated permit the three high sides. -/
def forcing (m : Motor) (s : State) : Forcing :=
  let all := faultActive m s || dryRun m s
  ⟨all || !s.input.permit, all⟩

/-- The outputs as the record and the forcing call for them (R10): the commanded side is on when its enable time has
been reached and nothing forces it off, and every other output is off. -/
def PhaseRecord.refresh (f : Forcing) (r : PhaseRecord) : PhaseRecord :=
  { r with
    high := decide (r.commanded = .high) && decide (r.enable = .reached) && !f.high
    low := decide (r.commanded = .low) && decide (r.enable = .reached) && !f.low }

/-- A commanded change (R11, R12): a new side waits until `t`, FLOAT clears the enable time, and a command naming the
state already commanded changes nothing. -/
def PhaseRecord.command (d : Drive) (t : Tick) (f : Forcing) (r : PhaseRecord) : PhaseRecord :=
  if r.commanded = d then r
  else
    match d with
    | .float => PhaseRecord.refresh f { r with commanded := .float, enable := .absent }
    | .high => PhaseRecord.refresh f { r with commanded := .high, enable := .at t }
    | .low => PhaseRecord.refresh f { r with commanded := .low, enable := .at t }

/-- The enable time of a released side: `t`, or its own where that is a later tick count (R14). -/
def laterEnable (own : Enable) (t : Tick) : Enable :=
  match own with
  | .at u => if passed t u then .at u else .at t
  | .absent => .at t
  | .reached => .at t

/-- A forcing forces the side that the record names as commanded. -/
def Forcing.holds (f : Forcing) (d : Drive) : Bool :=
  match d with
  | .high => f.high
  | .low => f.low
  | .float => false

/-- The forcing changes from `before` to `after`: a side now forced turns off at once (R13), and a released commanded
side waits until `t` (R14). -/
def PhaseRecord.reforce (before after : Forcing) (t : Tick) (r : PhaseRecord) : PhaseRecord :=
  if before.holds r.commanded && !after.holds r.commanded then
    PhaseRecord.refresh after { r with enable := laterEnable r.enable t }
  else PhaseRecord.refresh after r

/-- The tick at which a side commanded or released now may turn on: DT from now (R11, R14). -/
def enableTick (s : State) : Tick := later s.time.tick s.setup.dt

/-- A phase of a motor is commanded (R11). -/
def drive (m : Motor) (x : Phase) (d : Drive) (s : State) : State :=
  withGates m ((gatesOf m s).set x (((gatesOf m s).get x).command d (enableTick s) (forcing m s))) s

/-- All three phases of a motor are commanded alike: FLOAT is COAST, LOW is BRAKE (R15). -/
def driveAll (m : Motor) (d : Drive) (s : State) : State :=
  withGates m ((gatesOf m s).map (PhaseRecord.command d (enableTick s) (forcing m s))) s

/-- The outputs of a motor after its forcing changed from `before` to the present one (R13, R14). -/
def applyForcing (m : Motor) (before : Forcing) (s : State) : State :=
  withGates m ((gatesOf m s).map (PhaseRecord.reforce before (forcing m s) (enableTick s))) s

/-- A phase's enable time has been reached and is still to be taken (R10). -/
def enableDue (m : Motor) (x : Phase) (s : State) : Bool :=
  match ((gatesOf m s).get x).enable with
  | .at t => s.time.running && reached t s.time.tick
  | .absent => false
  | .reached => false

/-- The enable time of a phase is reached: the mark replaces the tick count, and the commanded side turns on unless it
is forced off (R10). -/
def takeEnable (m : Motor) (x : Phase) (s : State) : State :=
  withGates m ((gatesOf m s).set x
    (PhaseRecord.refresh (forcing m s) { (gatesOf m s).get x with enable := .reached })) s

end Sys2Proof.Machine
end

