-- ==== Sys2Proof/Machine/Planner.lean ====
section
/-! DEFINITION. The plan arithmetic of the Drum Planner (R29 to R39), its levels (R37) and the building of a plan. -/

namespace Sys2Proof.Machine

/-- The raw on-time of a fraction d in a half-period: floor(d × H / 65536) (R29, R110). -/
def rawOnTime (d : Word) (half : Nat) : Nat := d.toNat * half / 65536

/-- The minimum-pulse rule (R30, R110): an on-time below DT becomes 0, one within DT of the half-period becomes it. -/
def trimPulse (half dt t : Nat) : Nat :=
  if 0 < t ∧ t < dt then 0
  else if half < t + dt ∧ t < half then half
  else t

/-- The ranking of three applied on-times, largest first, ties A above B above C (R31). -/
def rankOnTimes (t : PerPhase Nat) : Ranking :=
  if t.b ≤ t.a then
    if t.c ≤ t.b then .abc
    else if t.c ≤ t.a then .acb
    else .cab
  else
    if t.c ≤ t.a then .bac
    else if t.c ≤ t.b then .bca
    else .cba

/-- The phase ranked first (R31). -/
def Ranking.maxPhase : Ranking → Phase
  | .abc => .a
  | .acb => .a
  | .bac => .b
  | .bca => .b
  | .cab => .c
  | .cba => .c

/-- The phase ranked second (R31). -/
def Ranking.midPhase : Ranking → Phase
  | .abc => .b
  | .acb => .c
  | .bac => .a
  | .bca => .c
  | .cab => .a
  | .cba => .b

/-- The phase ranked last (R31). -/
def Ranking.minPhase : Ranking → Phase
  | .abc => .c
  | .acb => .b
  | .bac => .c
  | .bca => .a
  | .cab => .b
  | .cba => .a

/-- Values of the max, mid and min phase, assigned to the phases A, B and C (R35, R74). -/
def Ranking.place {α : Type} (r : Ranking) (hi mid lo : α) : PerPhase α :=
  match r with
  | .abc => ⟨hi, mid, lo⟩
  | .acb => ⟨hi, lo, mid⟩
  | .bac => ⟨mid, hi, lo⟩
  | .bca => ⟨lo, hi, mid⟩
  | .cab => ⟨mid, lo, hi⟩
  | .cba => ⟨lo, mid, hi⟩

/-- The shift that widens a window of width `w` (R33, R34): what is needed, within the room in the one half and in the
other. -/
def shiftFor (wmin w room1 room2 : Nat) : Nat := if w < wmin then min (wmin - w) (min room1 room2) else 0

/-- The request of a window that is not SHORT (R38). -/
def windowRequest (dt tsettle : Nat) (w : Option Span) : Option RequestSpan :=
  w.map fun p => ⟨p.start + dt + tsettle, p.stop - Config.acquisition⟩

/-- The minimum usable window Wmin (section 2.4). -/
def minWindow (dt tsettle : Nat) : Nat := dt + tsettle + Config.acquisition

/-- The plan for the period numbered `period` with half-period `half` (R29 to R39). -/
def buildPlan (period : Word) (half dt tsettle : Nat) (d : PerPhase Word) : Plan :=
  let raw := d.map fun x => rawOnTime x half
  let t := raw.map (trimPulse half dt)
  let r := rankOnTimes t
  let tmax := t.get r.maxPhase
  let tmid := t.get r.midPhase
  let tmin := t.get r.minPhase
  let wmin := minWindow dt tsettle
  let w1 := tmax - tmid
  let w2 := tmid - tmin
  let s1 := shiftFor wmin w1 (half - tmax) tmax
  let s2 := shiftFor wmin w2 tmin (half - tmin)
  let short1 := decide (w1 + s1 < wmin)
  let short2 := decide (w2 + s2 < wmin)
  let window1 : Option Span := if short1 then none else some ⟨half - tmax - s1, half - tmid⟩
  let window2 : Option Span := if short2 then none else some ⟨half - tmid, half - tmin + s2⟩
  { period := period
    half := half
    onTime := t
    ranking := r
    up := r.place (tmax + s1) tmid (tmin - s2)
    down := r.place (tmax - s1) tmid (tmin + s2)
    window1 := window1
    window2 := window2
    request1 := windowRequest dt tsettle window1
    request2 := windowRequest dt tsettle window2
    trimmed := decide (t ≠ raw)
    shift1 := decide (0 < s1)
    shift2 := decide (0 < s2)
    short1 := short1
    short2 := short2 }

/-- The level a plan commands a phase at a position of its period (R37): HIGH from H − u, through the peak, until H + v. -/
def planLevel (p : Plan) (x : Phase) (pos : Nat) : Drive :=
  if p.half ≤ pos + p.up.get x ∧ pos < p.half + p.down.get x then .high else .low

/-- The planner builds the plan of the next period from `d` with the latched H, and holds it as the prepared plan
(R25, R26, R44). -/
def preparePlan (d : PerPhase Word) (s : State) : State :=
  s.withPlanner
    { s.planner with
      prepared := some
        (buildPlan (s.drumCar.period + 1) s.drumCar.latchedHalf s.setup.dt s.setup.tsettle d) }

/-- The planner takes the slot's entry: the slot is emptied, the miss counter is 0, its fractions become the last
applied, and the plan is built from them (R24, R25). -/
def takeEntry (d : PerPhase Word) (s : State) : State :=
  preparePlan d (s.withPlanner { s.planner with slot := none, misses := 0, lastApplied := d })

end Sys2Proof.Machine
end

