-- ==== Sys2Proof/Machine/DrumControl.lean ====
section
/-! DEFINITION. Drum State Control: changes of the drum state, entry to SAFE and the causes (R90 to R99, R103). -/

namespace Sys2Proof.Machine

/-- No further cause (R96, R140). -/
def FurtherCauses.empty : FurtherCauses := ⟨false, false, false⟩

/-- The pattern Drum State Control commands in a state; RUN commands none (R90). -/
def drumPattern (st : DrumState) (brake : Bool) : Option Drive :=
  match st with
  | .off => some .float
  | .offset => some .float
  | .ready => some .float
  | .run => none
  | .brake => some .low
  | .safe => some (if brake then .low else .float)

/-- The states whose entry empties the pending slot and the prepared plan (R23). -/
def DrumState.emptiesSlot : DrumState → Bool
  | .off => true
  | .offset => true
  | .brake => true
  | .safe => true
  | .ready => false
  | .run => false

/-- The planner at a change of the drum state: what R23 gives up. -/
def Planner.atDrumState (p : Planner) (st : DrumState) : Planner :=
  { p with
    slot := if st.emptiesSlot then none else p.slot
    prepared := if st.emptiesSlot then none else p.prepared
    inForce := if st = .run then p.inForce else none }

/-- The pattern of a state reaches the three drum phases (R90). -/
def commandDrumPattern (st : DrumState) (s : State) : State :=
  match drumPattern st s.setup.brake with
  | some d => driveAll .drum d s
  | none => s

/-- A change of the drum state: the state, no stop pending (R94, R96), its pattern (R90) and what the planner gives up
(R23). -/
def enterDrumState (st : DrumState) (s : State) : State :=
  let t := commandDrumPattern st (s.withDrum { s.drum with state := st, stopPending := none })
  t.withPlanner (t.planner.atDrumState st)

/-- A change of the drum state other than to SAFE, with its STATE notice (R103). -/
def changeDrum (st : DrumState) (s : State) : State := joinNotice (.drumState st) (enterDrumState st s)

/-- The snapshot of an entry to SAFE (R99). -/
def drumSnapshot (cause : Cause) (s : State) : DrumSnapshot :=
  ⟨stampPeriod s, ⟨cause, .empty⟩, s.recon.lastFresh, s.planner.misses, s.drum.state⟩

/-- The snapshot slot at an entry to SAFE: an empty slot is filled, a full one is kept and SNAPSHOT_LOST set (R99). -/
def takeDrumSnapshot (snap : DrumSnapshot) (s : State) : State :=
  if s.drum.snapshot.isSome then setSnapshotLost s
  else s.withDrum { s.drum with snapshot := some snap }

/-- The period entry that an entry to SAFE leaves open (R73, R96): none in the course of a period; at the tick of a drum
period start that is still to be taken, the entry of the period ending, which that event closes (log 35). -/
def endingEntry (s : State) : Option PeriodEntry := if drumStartDue s then s.recon.periodEntry else none

/-- An entry of the drum to SAFE (R96): the safe action, the cause record, the period entry given up (R73), the
snapshot (R99) and the SAFE_ENTRY notice (R103). -/
def enterDrumSafe (cause : Cause) (s : State) : State :=
  let t := enterDrumState .safe s
  let u := t.withRecon { t.recon with periodEntry := endingEntry s }
  let v := u.withDrum { u.drum with cause := some ⟨cause, .empty⟩ }
  joinNotice (.safeEntry .drum cause) (takeDrumSnapshot (drumSnapshot cause s) v)

/-- A cause that arises in SAFE is added to the further causes (R97, R141). The other causes cannot arise there. -/
def CauseRecord.add (r : CauseRecord) (cause : Cause) : CauseRecord :=
  match cause with
  | .permit => { r with further := { r.further with permit := true } }
  | .gateFault => { r with further := { r.further with gateFault := true } }
  | .linkBreak => { r with further := { r.further with linkBreak := true } }
  | .lateDuty => r
  | .overcurrent => r
  | .overTemp => r
  | .offsetRange => r
  | .stall => r
  | .startFail => r

/-- A further cause of a drum in SAFE (R97). -/
def addDrumCause (cause : Cause) (s : State) : State :=
  s.withDrum { s.drum with cause := s.drum.cause.map fun r => r.add cause }

/-- FAULT_D changed to active (R95, R97). -/
def drumGateFault (s : State) : State :=
  match s.drum.state with
  | .off => s
  | .offset => enterDrumSafe .gateFault s
  | .ready => enterDrumSafe .gateFault s
  | .run => enterDrumSafe .gateFault s
  | .brake => enterDrumSafe .gateFault s
  | .safe => addDrumCause .gateFault s

/-- The validated permit changed to INACTIVE (R95, R97, R101). -/
def drumPermitLost (s : State) : State :=
  match s.drum.state with
  | .run => if s.drum.dry then s else enterDrumSafe .permit s
  | .safe => addDrumCause .permit s
  | .off => s
  | .offset => s
  | .ready => s
  | .brake => s

/-- The over-temperature check signals OVER_TEMP (R80, R95). -/
def drumOverTemp (s : State) : State :=
  match s.drum.state with
  | .run => enterDrumSafe .overTemp s
  | .brake => enterDrumSafe .overTemp s
  | .off => s
  | .offset => s
  | .ready => s
  | .safe => s

/-- The Link Port signals LINK_BREAK (R95, R97, R150). -/
def drumLinkBreak (s : State) : State :=
  match s.drum.state with
  | .run => enterDrumSafe .linkBreak s
  | .brake => enterDrumSafe .linkBreak s
  | .safe => addDrumCause .linkBreak s
  | .off => s
  | .offset => s
  | .ready => s

/-- The reconstructor signals OVERCURRENT (R76, R95). -/
def drumOvercurrent (s : State) : State := if s.drum.state = .run then enterDrumSafe .overcurrent s else s

/-- The mean of 64 calibration codes, rounded, halves up (R87, R133). -/
def calibratedOffset (sum : Nat) : Nat := (sum + 32) / 64

/-- The offsets a calibration accepts (R87, R133). -/
def offsetInRange (offset : Nat) : Bool := decide (1848 ≤ offset) && decide (offset ≤ 2248)

/-- A calibration sample's raw code enters the bookkeeping (R86, R133). -/
def Calibration.sample (c : Calibration) (raw : Code) : Calibration :=
  { c with sum := c.sum + raw.toNat, codes := c.codes + 1 }

/-- A calibrated offset is written into a shunt row whose offset source is CALIBRATE (R63). -/
def writeOffset (m : Measurand) (offset : Nat) (s : State) : State :=
  if (inputRow m s).source = .calibrate then
    s.withSched
      { s.sched with
        table := s.sched.table.set m.index { inputRow m s with offset := BitVec.ofNat 12 offset } }
  else s

/-- The end of the drum's calibration, at its 64th sample (R87). -/
def endDrumCalibration (s : State) : State :=
  let offset := calibratedOffset s.drum.calib.sum
  if offsetInRange offset then
    changeDrum .ready (joinNotice (.offsetDone .drum offset) (writeOffset .drumShunt offset s))
  else enterDrumSafe .offsetRange s

/-- A code of the drum's calibration request (R86): in OFFSET, with the calibration period number. -/
def drumCalibrationCode (period : Word) (raw : Code) (s : State) : State :=
  if s.drum.state = .offset ∧ s.drum.calib.period = some period then
    let t := s.withDrum { s.drum with calib := s.drum.calib.sample raw }
    if t.drum.calib.codes = 64 then endDrumCalibration t else t
  else s

end Sys2Proof.Machine
end

