-- ==== Sys2Proof/Machine/Pump.lean ====
section
/-! DEFINITION. The Pump Commutator and Pump State Control: step patterns (R110 to R112), timing (R117 to R123), the
commutation (R124), changes of the pump state (R131 to R136), the current accounting (R138, R139) and the causes
(R140, R141, R143). -/

namespace Sys2Proof.Machine

/-- The pump is running: ALIGN, RAMP or CLOSED (R128). -/
def PumpState.running : PumpState → Bool
  | .align => true
  | .ramp => true
  | .closed => true
  | .off => false
  | .offset => false
  | .safe => false

/-- The zero-crossing detector runs: RAMP or CLOSED (R114). -/
def PumpState.detecting : PumpState → Bool
  | .ramp => true
  | .closed => true
  | .align => false
  | .off => false
  | .offset => false
  | .safe => false

/-! ### Step order, sequence check and patterns -/

/-- The row after `r` in a direction (R109). -/
def nextStep (d : Direction) (r : Fin 6) : Fin 6 :=
  match d with
  | .forward => r + 1
  | .reverse => r + 5

/-- The opposite polarity (R109). -/
def Polarity.flip : Polarity → Polarity
  | .falling => .rising
  | .rising => .falling

/-- The row of the step in progress (R105). -/
def stepRow (s : State) : CommutationRow := s.comm.table[s.comm.stepIndex]

/-- The polarity in force in the step in progress (R109). -/
def polarityInForce (s : State) : Polarity :=
  match s.comm.direction with
  | .forward => (stepRow s).polarity
  | .reverse => (stepRow s).polarity.flip

/-- A row and its cyclic successor keep exactly one of the two driven roles and differ in polarity (R108). -/
def pairWalks (r next : CommutationRow) : Bool :=
  ((decide (next.high = r.high) && decide (next.low ≠ r.low)) ||
    (decide (next.low = r.low) && decide (next.high ≠ r.high))) &&
  decide (next.polarity ≠ r.polarity)

/-- The sequence check of the commutation table (R108). -/
def sequencePasses (t : Vector CommutationRow 6) : Bool :=
  pairWalks t[0] t[1] && pairWalks t[1] t[2] && pairWalks t[2] t[3] && pairWalks t[3] t[4] && pairWalks t[4] t[5] &&
  pairWalks t[5] t[0]

/-- The on-span holds this position of the pump period: from Hp − Tp up to, not including, Hp + Tp (R111). -/
def inSpan (half onTime pos : Nat) : Bool := decide (half ≤ pos + onTime) && decide (pos < half + onTime)

/-- The level of the step's high phase now (R111, R112). At the tick of a pump period start that is still to be taken the
period in progress is over, so the level is LOW, with Tp = Hp too (log 37). -/
def spanLevel (s : State) : Drive := if inSpan s.pumpCar.half s.comm.onTime s.pumpCar.pos then .high else .low

/-- The step pattern of the step in progress is commanded, as it stands now (R111, R112). -/
def commandStep (s : State) : State :=
  let row := stepRow s
  drive .pump row.floating .float (drive .pump row.low .low (drive .pump row.high (spanLevel s) s))

/-! ### Intervals and delays -/

/-- The interval from the last ZC time to a crossing, saturated (R117). -/
def intervalFrom (last : Option Tick) (z : Tick) : Option Nat := last.map fun l => min (distance l z) Config.intervalMax

/-- The interval of the step in progress: present when its crossing was accepted with a last ZC time (R117, R125). -/
def stepInterval (s : State) : Option Nat := s.comm.stepZc.bind (intervalFrom s.comm.lastZc)

/-- An interval joins the ring as its newest entry; when six are held the oldest leaves (R118). -/
def pushRing (ring : List Nat) (interval : Option Nat) : List Nat :=
  match interval with
  | some i => (ring ++ [i]).drop (ring.length + 1 - 6)
  | none => ring

/-- The ring sum (R118). -/
def ringSum (s : State) : Nat := s.comm.ring.sum

/-- The delay of a commutation after its crossing, in step ticks (R119). -/
def commutationDelay (s : State) : Nat := ringSum s * (240 - s.pump.profile.alpha8) / 2880

/-- Twice the mean step, in step ticks (R121). -/
def timeoutSpan (s : State) : Nat := 2 * (ringSum s / 6)

/-! ### Step current -/

/-- The mean of the step's current samples, truncated toward zero; absent when there is none (R138). -/
def stepMean (s : State) : Option Int :=
  if s.pump.currentCount = 0 then none else some (s.pump.currentSum.tdiv s.pump.currentCount)

/-- The step current sum and count are set to 0 (R124, R134, R135). -/
def clearCurrent (s : State) : State := s.withPump { s.pump with currentSum := 0, currentCount := 0 }

/-! ### Changes of the pump state -/

/-- The STATE notice of a change of the pump state (R143). -/
def pumpStateNotice (st : PumpState) (s : State) : State := joinNotice (.pumpState st) s

/-- The pump goes to OFF or SAFE: COAST (R131), no pending duty (R137), no ramp (R135), and no due time or deadline
(R126). -/
def stopPump (st : PumpState) (s : State) : State :=
  let t := s.withPump { s.pump with state := st, pendingDuty := none, rampPosition := none, rampTime := none }
  let u := t.withComm { t.comm with due := none, deadline := none }
  driveAll .pump .float u

/-- The pump goes to OFF, with its STATE notice (R142, R143). -/
def pumpOff (s : State) : State := pumpStateNotice .off (stopPump .off s)

/-- The pump enters OFFSET: calibration starts afresh and FLOAT is commanded (R131, R132). -/
def enterPumpOffset (s : State) : State :=
  pumpStateNotice .offset (driveAll .pump .float (s.withPump { s.pump with state := .offset, calib := .zero }))

/-- The pump enters ALIGN (R134): step index, absent last ZC time, counts, align entry time and the pattern of the
row. A new step begins: no crossing is accepted in it (log 12), and the period in progress has a Tp of 0 (R112,
log 13). -/
def enterAlign (s : State) : State :=
  let t := s.withComm
    { s.comm with
      stepIndex := s.pump.profile.startIndex
      lastZc := none
      zcRun := 0
      firstSample := none
      stepZc := none
      onTime := 0 }
  let u := t.withPump
    { t.pump with
      state := .align
      alignCount := 0
      currentSum := 0
      currentCount := 0
      alignEntry := some t.time.tick
      alignStarts := 0 }
  pumpStateNotice .align (commandStep u)

/-- The pump enters RAMP (R135). -/
def enterRamp (s : State) : State :=
  let t := s.withPump
    { s.pump with
      state := .ramp
      rampPosition := some ⟨0, 0⟩
      rampTime := some (later s.time.stepTick s.pump.ramp[0].interval)
      currentSum := 0
      currentCount := 0 }
  pumpStateNotice .ramp (t.withComm { t.comm with blanking := t.pump.profile.blanking })

/-- The pump enters CLOSED with the duty of the ramp row in force; the ramp schedule is cancelled (R135, R136). -/
def enterClosed (duty : Word) (s : State) : State :=
  pumpStateNotice .closed
    (s.withPump { s.pump with state := .closed, rampPosition := none, rampTime := none, dutyInForce := duty })

/-- The snapshot of an entry to SAFE (R143). At the tick of a pump period start that is still to be taken, the period in
progress is the one ending (log 32). -/
def pumpSnapshot (cause : Cause) (s : State) : PumpSnapshot :=
  ⟨s.pumpCar.period, ⟨cause, .empty⟩, s.comm.stepIndex, s.pump.state, s.comm.ring.getLast?, stepMean s⟩

/-- The pump's snapshot slot at an entry to SAFE (R143). -/
def takePumpSnapshot (snap : PumpSnapshot) (s : State) : State :=
  if s.pump.snapshot.isSome then setSnapshotLost s
  else s.withPump { s.pump with snapshot := some snap }

/-- An entry of the pump to SAFE (R140), with its snapshot and SAFE_ENTRY notice (R143). -/
def enterPumpSafe (cause : Cause) (s : State) : State :=
  let t := stopPump .safe s
  let u := t.withPump { t.pump with cause := some ⟨cause, .empty⟩ }
  joinNotice (.safeEntry .pump cause) (takePumpSnapshot (pumpSnapshot cause s) u)

/-- A further cause of a pump in SAFE (R141). -/
def addPumpCause (cause : Cause) (s : State) : State :=
  s.withPump { s.pump with cause := s.pump.cause.map fun r => r.add cause }

/-- FAULT_P changed to active (R140, R141). -/
def pumpGateFault (s : State) : State :=
  match s.pump.state with
  | .off => s
  | .offset => enterPumpSafe .gateFault s
  | .align => enterPumpSafe .gateFault s
  | .ramp => enterPumpSafe .gateFault s
  | .closed => enterPumpSafe .gateFault s
  | .safe => addPumpCause .gateFault s

/-- The validated permit changed to INACTIVE (R140 to R142). -/
def pumpPermitLost (s : State) : State :=
  match s.pump.state with
  | .align => if s.pump.dry then s else enterPumpSafe .permit s
  | .ramp => if s.pump.dry then s else enterPumpSafe .permit s
  | .closed => if s.pump.dry then s else enterPumpSafe .permit s
  | .safe => addPumpCause .permit s
  | .off => s
  | .offset => s

/-- The over-temperature check signals OVER_TEMP (R80, R140). -/
def pumpOverTemp (s : State) : State := if s.pump.state.running then enterPumpSafe .overTemp s else s

/-- The Link Port signals LINK_BREAK (R140, R141, R150). -/
def pumpLinkBreak (s : State) : State :=
  match s.pump.state with
  | .align => enterPumpSafe .linkBreak s
  | .ramp => enterPumpSafe .linkBreak s
  | .closed => enterPumpSafe .linkBreak s
  | .safe => addPumpCause .linkBreak s
  | .off => s
  | .offset => s

/-- Two effects at the two motors' state controls, in the order the command gives (log 5). -/
def bothMotors (first : Motor) (onDrum onPump : State → State) (s : State) : State :=
  match first with
  | .drum => onPump (onDrum s)
  | .pump => onDrum (onPump s)

/-! ### The commutation (R124) -/

/-- The PUMP_STEP record of the step that ends (R125). At the tick of a pump period start that is still to be taken, the
period in progress is the one ending (log 32). -/
def stepRecord (kind : StepKind) (s : State) : StepRecord :=
  ⟨s.pumpCar.period, s.comm.stepIndex, stepInterval s, kind, stepMean s, s.pump.currentCount⟩

/-- The record of the step that ends joins when the pump report flag is set (R124, R125). -/
def reportStep (kind : StepKind) (s : State) : State :=
  if s.pump.report then joinRecord (.step (stepRecord kind s)) s else s

/-- The last ZC time a commutation sets: the step's crossing, else the virtual ZC time of a timeout, else absent
(R117). -/
def closingZc (virtual : Option Tick) (s : State) : Option Tick :=
  match s.comm.stepZc with
  | some z => some z
  | none => virtual

/-- A commutation (R124); `virtual` is the virtual ZC time of a timeout (R121). -/
def commutate (kind : StepKind) (virtual : Option Tick) (s : State) : State :=
  let t := clearCurrent (reportStep kind s)
  let u := t.withComm
    { t.comm with
      lastZc := closingZc virtual t
      stepIndex := nextStep t.comm.direction t.comm.stepIndex
      blanking := t.pump.profile.blanking
      marks := t.comm.marks.map fun m => { m with examined := false }
      zcRun := 0
      firstSample := none
      stepZc := none
      lastCommutation := some t.time.stepTick
      due := none
      deadline := if t.pump.state = .closed then some (later t.time.stepTick (timeoutSpan t)) else none }
  commandStep u

/-- A crossing accepted in CLOSED times the commutation, which is made at once if its time has been reached (R120,
R123); the miss counter becomes 0 (R116). -/
def timeCommutation (z : Tick) (s : State) : State :=
  let due := later z (commutationDelay s)
  let t := s.withComm { s.comm with due := some due, deadline := none, zcMisses := 0 }
  if reached due t.time.stepTick then commutate .accepted none t else t

/-- An interval lies within a quarter of the ramp row's (R136). -/
def nearRow (row : RampRow) (interval : Option Nat) : Bool :=
  match interval with
  | some i => decide (i ≤ row.interval + row.interval / 4) && decide (row.interval ≤ i + row.interval / 4)
  | none => false

/-- The stable count at a crossing accepted in RAMP; at Nstable the pump enters CLOSED (R136). -/
def countStable (interval : Option Nat) (s : State) : State :=
  match s.pump.rampPosition with
  | none => s
  | some p =>
    let row := s.pump.ramp[p.row]
    if nearRow row interval then
      let t := s.withPump { s.pump with stable := s.pump.stable + 1 }
      if t.pump.profile.nstable ≤ t.pump.stable then enterClosed row.duty t else t
    else s.withPump { s.pump with stable := 0 }

/-- A crossing is accepted with ZC time `z` (R116): its interval joins the ring (R117, R118), in RAMP it moves the
stable count (R136), and in CLOSED, also when entered here, it times the commutation (R120, R123). -/
def acceptCrossing (z : Tick) (s : State) : State :=
  let interval := intervalFrom s.comm.lastZc z
  let t := s.withComm
    { s.comm with stepZc := some z, firstSample := none, zcRun := 3, ring := pushRing s.comm.ring interval }
  let u := if t.pump.state = .ramp then countStable interval t else t
  if u.pump.state = .closed then timeCommutation z u else u

/-! ### The ramp (R135) -/

/-- The ramp position advances at a ramp commutation; at the end of the last row the start fails (R135). -/
def advanceRamp (s : State) : State :=
  match s.pump.rampPosition with
  | none => s
  | some p =>
    let row := s.pump.ramp[p.row]
    if p.repeats + 1 < row.repeats then
      s.withPump
        { s.pump with
          rampPosition := some ⟨p.row, p.repeats + 1⟩
          rampTime := some (later s.time.stepTick row.interval) }
    else if h : p.row.val + 1 < 16 ∧ p.row.val + 1 < s.pump.rampLength then
      s.withPump
        { s.pump with
          rampPosition := some ⟨⟨p.row.val + 1, h.1⟩, 0⟩
          rampTime := some (later s.time.stepTick s.pump.ramp[p.row.val + 1].interval) }
    else enterPumpSafe .startFail s

/-- A ramp commutation (R124, R135); a step that ends without an accepted crossing sets the stable count to 0 (R136). -/
def rampCommutation (s : State) : State :=
  let t := commutate .ramp none s
  advanceRamp (if s.comm.stepZc.isSome then t else t.withPump { t.pump with stable := 0 })

/-! ### The timeout (R121, R122) -/

/-- The ZC_MISS notice of the first timeout of a run (R121), with the pump period number as in PUMP_STEP (log 32). -/
def zcMissNotice (first : Bool) (stepIndex : Fin 6) (s : State) : State :=
  if first then joinNotice (.zcMiss s.pumpCar.period stepIndex) s else s

/-- A timeout at the deadline (R121): below Kzc a forced commutation from the virtual ZC time, at Kzc STALL (R122). -/
def takeTimeout (deadline : Tick) (s : State) : State :=
  let first := decide (s.comm.zcMisses = 0)
  let t := s.withComm { s.comm with zcMisses := s.comm.zcMisses + 1 }
  if t.comm.zcMisses < t.pump.profile.kzc then
    let virtual := deadline - BitVec.ofNat 32 (commutationDelay t)
    zcMissNotice first s.comm.stepIndex (commutate .forced (some virtual) t)
  else enterPumpSafe .stall (zcMissNotice first s.comm.stepIndex t)

/-! ### Current samples (R138, R139) and calibration (R133) -/

/-- The sample belongs to the present run (R138). -/
def sampleCounts (start : Tick) (s : State) : Bool :=
  match s.pump.alignEntry with
  | none => true
  | some entry => reached entry start

/-- A pump shunt sample is over (R139). -/
def sampleOver (raw : Code) (value : Int) (trip : Code) : Bool :=
  decide (raw = 4095#12) || (decide (trip ≠ 0) && decide ((trip.toNat : Int) < value))

/-- A current sample is added to the step's sum and count (R138). -/
def addSample (value : Int) (s : State) : State :=
  if s.pump.currentCount < 65535 then
    s.withPump { s.pump with currentSum := s.pump.currentSum + value, currentCount := s.pump.currentCount + 1 }
  else s

/-- A current sample: it is added (R138) and checked, and the third over sample takes the pump to SAFE (R139). -/
def currentSample (raw : Code) (value : Int) (s : State) : State :=
  let t := addSample value s
  if sampleOver raw value (inputRow .pumpShunt t).trip then
    let u := t.withPump { t.pump with overRun := runUp 3 t.pump.overRun }
    if u.pump.overRun = 3 then enterPumpSafe .overcurrent u else u
  else t.withPump { t.pump with overRun := 0 }

/-- The end of the pump's calibration, at its 64th sample (R133); the permit is checked at the entry to ALIGN (R134). -/
def endPumpCalibration (s : State) : State :=
  let offset := calibratedOffset s.pump.calib.sum
  if offsetInRange offset then
    let t := joinNotice (.offsetDone .pump offset) (writeOffset .pumpShunt offset s)
    if t.input.permit || t.pump.dry then enterAlign t else enterPumpSafe .permit t
  else enterPumpSafe .offsetRange s

/-- A code of the pump's calibration request (R133). -/
def pumpCalibrationCode (period : Word) (raw : Code) (s : State) : State :=
  if s.pump.calib.period = some period then
    let t := s.withPump { s.pump with calib := s.pump.calib.sample raw }
    if t.pump.calib.codes = 64 then endPumpCalibration t else t
  else s

/-- A pump shunt code delivered to Pump State Control (R57): a calibration sample in OFFSET, a current sample in a
running state. -/
def pumpShuntCode (period : Word) (start : Tick) (raw : Code) (value : Int) (s : State) : State :=
  if s.pump.state = .offset then pumpCalibrationCode period raw s
  else if s.pump.state.running && sampleCounts start s then currentSample raw value s
  else s

/-! ### The zero-crossing detector (R113 to R116) -/

/-- The mark of a pump period is EXAMINED (R113, R114). -/
def markedExamined (period : Word) (s : State) : Bool :=
  s.comm.marks.any fun m => decide (m.period = period) && m.examined

/-- A floating-phase outcome of this period is examined (R114). -/
def examines (period : Word) (s : State) : Bool :=
  s.pump.state.detecting && s.comm.stepZc.isNone && markedExamined period s

/-- The ZC run is broken (R115). -/
def breakRun (s : State) : State := s.withComm { s.comm with zcRun := 0, firstSample := none }

/-- A code is on the new side of the threshold (R115). -/
def onNewSide (value : Int) (s : State) : Bool :=
  let threshold : Int := (s.sched.busReading / 2 : Nat)
  match polarityInForce s with
  | .rising => decide (threshold < value)
  | .falling => decide (value < threshold)

/-- An examined code moves the ZC run (R115); at 3 the crossing is accepted (R116). -/
def examineCode (startStep : Tick) (value : Int) (s : State) : State :=
  if onNewSide value s then
    let first := if s.comm.zcRun = 0 then startStep else s.comm.firstSample.getD startStep
    let t := s.withComm { s.comm with zcRun := s.comm.zcRun + 1, firstSample := some first }
    if 3 ≤ t.comm.zcRun then acceptCrossing first t else t
  else breakRun s

/-- A floating-phase code delivered to the commutator (R57, R114). -/
def floatingCode (period : Word) (startStep : Tick) (value : Int) (s : State) : State :=
  if examines period s then examineCode startStep value s else s

/-- A LOST floating-phase outcome (R114, R115): not examined when it was SUPERSEDED. -/
def floatingLost (period : Word) (reason : LostReason) (s : State) : State :=
  if reason ≠ .superseded ∧ examines period s = true then breakRun s else s

end Sys2Proof.Machine
end

