-- ==== Sys2Proof/Machine/Reconstructor.lean ====
section
/-! DEFINITION. The Drum Reconstructor: entries, filing, rebuilding, the protection runs and the DRUM and HOUSE records
(R70 to R84). -/

namespace Sys2Proof.Machine

/-! ### Outcomes (R55, R56) -/

/-- What a request yielded (R55). -/
inductive OutcomeKind where
  | code (raw : Code) (value : Int) (start startStep : Tick)
  | lost (reason : LostReason)
  deriving DecidableEq, Repr, Inhabited

/-- An outcome record (R55). -/
structure ConversionOutcome where
  owner : Owner
  measurand : Measurand
  period : Word
  window : Nat
  kind : OutcomeKind
  deriving DecidableEq, Repr, Inhabited

/-- The corrected value of a raw code: signed for the shunts, 0 or more for the others (R56). -/
def correctedValue (m : Measurand) (raw offset : Code) : Int :=
  match m with
  | .drumShunt => (raw.toNat : Int) - offset.toNat
  | .pumpShunt => (raw.toNat : Int) - offset.toNat
  | .bus => ((raw.toNat - offset.toNat : Nat) : Int)
  | .pumpVa => ((raw.toNat - offset.toNat : Nat) : Int)
  | .pumpVb => ((raw.toNat - offset.toNat : Nat) : Int)
  | .pumpVc => ((raw.toNat - offset.toNat : Nat) : Int)
  | .temp => ((raw.toNat - offset.toNat : Nat) : Int)
  | .aux => ((raw.toNat - offset.toNat : Nat) : Int)

/-! ### Filing (R72) -/

/-- The outcome may fill a slot of an entry with this period number, opened at this tick (R72): not a conversion
started before the entry was opened, and not SUPERSEDED. -/
def ConversionOutcome.fits (o : ConversionOutcome) (period : Word) (openedAt : Tick) : Bool :=
  decide (o.period = period) &&
  match o.kind with
  | .code _ _ start _ => reached openedAt start
  | .lost reason => decide (reason ≠ .superseded)

/-- The window slot an outcome fills an AWAITED slot with (R72). -/
def OutcomeKind.windowSlot : OutcomeKind → WindowSlot
  | .code raw value _ _ => .code raw value
  | .lost reason => .lost reason

/-- The house or bus slot an outcome fills an AWAITED slot with (R72). -/
def OutcomeKind.houseSlot : OutcomeKind → HouseSlot
  | .code _ value _ _ => .value value.toNat
  | .lost reason => .lost reason

/-- Only an AWAITED window slot is filled (R72). -/
def fillWindow (k : OutcomeKind) (slot : WindowSlot) : WindowSlot := if slot = .awaited then k.windowSlot else slot

/-- Only an AWAITED house or bus slot is filled (R72). -/
def fillHouse (k : OutcomeKind) (slot : HouseSlot) : HouseSlot := if slot = .awaited then k.houseSlot else slot

/-- An outcome at the period entry (R72). -/
def PeriodEntry.file (o : ConversionOutcome) (e : PeriodEntry) : PeriodEntry :=
  if o.fits e.period e.openedAt then
    match o.owner, o.window with
    | .drum, 1 => { e with window1 := fillWindow o.kind e.window1 }
    | .drum, 2 => { e with window2 := fillWindow o.kind e.window2 }
    | .house, 1 => { e with bus := fillHouse o.kind e.bus }
    | _, _ => e
  else e

/-- An outcome at the house entry (R72). -/
def HouseEntry.file (o : ConversionOutcome) (e : HouseEntry) : HouseEntry :=
  if o.fits e.period e.openedAt then
    match o.owner, o.window with
    | .house, 1 => { e with bus := fillHouse o.kind e.bus }
    | .house, 2 => { e with temp := fillHouse o.kind e.temp }
    | .house, 3 => { e with aux := fillHouse o.kind e.aux }
    | _, _ => e
  else e

/-- An outcome is filed in the open entries it fits (R72). -/
def fileOutcome (o : ConversionOutcome) (s : State) : State :=
  s.withRecon
    { s.recon with
      periodEntry := s.recon.periodEntry.map (PeriodEntry.file o)
      houseEntry := s.recon.houseEntry.map (HouseEntry.file o) }

/-! ### The bus-high and over-temperature checks (R79, R80) -/

/-- A corrected value exceeds a trip code that is not 0 (R79, R80). -/
def aboveTrip (value : Nat) (trip : Code) : Bool := decide (trip ≠ 0) && decide (trip.toNat < value)

/-- The bus-high check at a BUS code (R79). -/
def busHighCheck (period : Word) (value : Nat) (s : State) : State :=
  if aboveTrip value (inputRow .bus s).trip then
    let t := s.withRecon { s.recon with busHighRun := runUp 3 s.recon.busHighRun }
    if t.recon.busHighRun = 3 ∧ t.recon.busHighActive = false then
      joinNotice (.busHigh period value) (t.withRecon { t.recon with busHighActive := true })
    else t
  else s.withRecon { s.recon with busHighRun := 0, busHighActive := false }

/-- The over-temperature check at a TEMP code (R80); at a run of 3 both state controls are signalled, in the order the
command gives. -/
def overTempCheck (first : Motor) (value : Nat) (s : State) : State :=
  if aboveTrip value (inputRow .temp s).trip then
    let t := s.withRecon { s.recon with overTempRun := runUp 3 s.recon.overTempRun }
    if t.recon.overTempRun = 3 then bothMotors first drumOverTemp pumpOverTemp t else t
  else s.withRecon { s.recon with overTempRun := 0 }

/-! ### Closing a period entry (R73 to R78, R81, R82) -/

/-- The currents of a FRESH period before the clamp: S1 to the max phase, S2 − S1 to the mid, −S2 to the min (R74). -/
def rebuildCurrents (r : Ranking) (v1 v2 : Int) : PerPhase Int := r.place v1 (v2 - v1) (-v2)

/-- A current within −4096..+4095 (R74). -/
def clampCurrent (i : Int) : Int := max (-4096) (min 4095 i)

/-- A raw code stands at an end of the converter's range (R76). -/
def endCode (raw : Code) : Bool := decide (raw = 0#12) || decide (raw = 4095#12)

/-- A FRESH period is over (R76). -/
def periodOver (trip : Code) (i : PerPhase Int) (raw1 raw2 : Code) : Bool :=
  (decide (trip ≠ 0) &&
    (decide (trip.toNat < i.a.natAbs) || decide (trip.toNat < i.b.natAbs) || decide (trip.toNat < i.c.natAbs))) ||
  endCode raw1 || endCode raw2

/-- The slot was not requested: SHORT (R75). -/
def WindowSlot.isShort (w : WindowSlot) : Bool := decide (w = .notRequested)

/-- The slot counts as LOST for the record (R75). -/
def WindowSlot.isLost : WindowSlot → Bool
  | .notRequested => false
  | .awaited => true
  | .code _ _ => false
  | .lost _ => true

/-- The corrected value in a slot; absent when it is NOT_REQUESTED or holds LOST (R81, R84). -/
def HouseSlot.present : HouseSlot → Option Nat
  | .notRequested => none
  | .awaited => none
  | .value v => some v
  | .lost _ => none

/-- The DRUM record of a period closed (R81). -/
def drumRecord (e : PeriodEntry) (fresh : Bool) (s : State) : DrumRecord where
  period := e.period
  currents := s.recon.lastFresh
  bus := e.bus.present
  fresh := fresh
  short1 := e.window1.isShort
  short2 := e.window2.isShort
  lost1 := e.window1.isLost
  lost2 := e.window2.isLost
  shift1 := e.plan.shift1
  shift2 := e.plan.shift2
  trimmed := e.plan.trimmed
  busHigh := s.recon.busHighActive
  dry := s.drum.dry

/-- The DRUM record joins when the report flag is set and the period number is a multiple of the divider (R82). -/
def reportPeriod (e : PeriodEntry) (fresh : Bool) (s : State) : State :=
  if s.drum.report = true ∧ e.period.toNat % s.setup.divider = 0 then joinRecord (.drum (drumRecord e fresh s)) s else s

/-- The close of a FRESH period: currents and runs (R74, R76, R78). -/
def closeFresh (e : PeriodEntry) (raw1 raw2 : Code) (v1 v2 : Int) (s : State) : State :=
  let i := rebuildCurrents e.plan.ranking v1 v2
  let tripping := periodOver (inputRow .drumShunt s).trip i raw1 raw2
  reportPeriod e true
    (s.withRecon
      { s.recon with
        lastFresh := i.map clampCurrent
        overRun := if tripping then runUp 3 s.recon.overRun else 0
        heldRun := 0 })

/-- The DRUM_BLIND notice of the 16th consecutive HELD period (R78). -/
def blindNotice (e : PeriodEntry) (sixteenth : Bool) (s : State) : State :=
  if sixteenth then joinNotice (.drumBlind e.period) s else s

/-- The close of a HELD period (R75, R78). -/
def closeHeld (e : PeriodEntry) (s : State) : State :=
  blindNotice e (decide (s.recon.heldRun = 15))
    (reportPeriod e false (s.withRecon { s.recon with heldRun := runUp 16 s.recon.heldRun }))

/-- A period entry is closed as FRESH or HELD (R74, R75). -/
def closePeriod (e : PeriodEntry) (s : State) : State :=
  match e.window1, e.window2 with
  | .code raw1 v1, .code raw2 v2 => closeFresh e raw1 raw2 v1 v2 s
  | _, _ => closeHeld e s

/-- The period closed is FRESH, over, and brought the run to 3: OVERCURRENT is signalled (R76). -/
def closeTrips (e : PeriodEntry) (s : State) : Bool :=
  match e.window1, e.window2 with
  | .code raw1 v1, .code raw2 v2 =>
    periodOver (inputRow .drumShunt s).trip (rebuildCurrents e.plan.ranking v1 v2) raw1 raw2 &&
    decide (runUp 3 s.recon.overRun = 3)
  | _, _ => false

/-- The open house entry is closed into a HOUSE record and given up (R84). -/
def closeHouse (s : State) : State :=
  match s.recon.houseEntry with
  | none => s
  | some e =>
    joinRecord (.house ⟨e.period, e.bus.present, e.temp.present, e.aux.present⟩)
      (s.withRecon { s.recon with houseEntry := none })

/-! ### Opening entries (R71, R84) -/

/-- The slot of a housekeeping request: AWAITED when its row names an input (R64, R65, R70). -/
def houseSlotFor (m : Measurand) (s : State) : HouseSlot := if assigned m s then .awaited else .notRequested

/-- A window slot at the opening: NOT_REQUESTED when the plan marks the window SHORT (R71). -/
def windowSlotFor (w : Option Span) : WindowSlot := if w.isSome then .awaited else .notRequested

/-- The period entry of the period beginning under this plan is opened (R71). -/
def openPeriodEntry (p : Plan) (s : State) : State :=
  s.withRecon
    { s.recon with
      periodEntry := some
        ⟨s.drumCar.period, s.time.tick, p, windowSlotFor p.window1, windowSlotFor p.window2, houseSlotFor .bus s⟩ }

/-- The period number is a multiple of 64 (R65, R84). -/
def housePeriod (s : State) : Bool := decide (s.drumCar.period.toNat % 64 = 0)

/-- The house entry of a period numbered a multiple of 64 is opened (R84). -/
def openHouse (s : State) : State :=
  if housePeriod s then
    s.withRecon
      { s.recon with
        houseEntry := some
          ⟨s.drumCar.period, s.time.tick, houseSlotFor .bus s, houseSlotFor .temp s, houseSlotFor .aux s⟩ }
  else s

end Sys2Proof.Machine
end

