-- ==== Sys2Proof/Machine/Scheduler.lean ====
section
/-! DEFINITION. The Converter Scheduler: delivery of outcomes (R55 to R59, R66), the request queue (R49 to R51), the
arbiter (R52, R53), expiry (R54) and the requests of the sources (R48, R64, R65, R67 to R69, R85). -/

namespace Sys2Proof.Machine

/-! ### Delivery -/

/-- A DRUM outcome: filed by the reconstructor (R72), a calibration sample in OFFSET (R86). -/
def deliverDrum (o : ConversionOutcome) (s : State) : State :=
  let t := fileOutcome o s
  match o.kind, o.window with
  | .code raw _ _ _, 1 => drumCalibrationCode o.period raw t
  | _, _ => t

/-- A PUMP outcome: window 1 to Pump State Control, window 2 to the commutator (R57). A LOST shunt outcome changes
nothing there (R133, R138, R139). -/
def deliverPump (o : ConversionOutcome) (s : State) : State :=
  match o.kind, o.window with
  | .code raw value start _, 1 => pumpShuntCode o.period start raw value s
  | .code _ value _ startStep, 2 => floatingCode o.period startStep value s
  | .lost reason, 2 => floatingLost o.period reason s
  | _, _ => s

/-- A HOUSE outcome: the latest bus reading (R66), filing (R72) and the checks of BUS and TEMP codes (R79, R80). -/
def deliverHouse (first : Motor) (o : ConversionOutcome) (s : State) : State :=
  let t := fileOutcome o s
  match o.kind, o.window with
  | .code _ value _ _, 1 => busHighCheck o.period value.toNat (t.withSched { t.sched with busReading := value.toNat })
  | .code _ value _ _, 2 => overTempCheck first value.toNat t
  | _, _ => t

/-- A LOST outcome is counted for its owner, DRUM or PUMP (R59). -/
def countLost (o : ConversionOutcome) (s : State) : State :=
  match o.kind, o.owner with
  | .lost _, .drum => s.withSched { s.sched with lostDrum := countUp s.sched.lostDrum }
  | .lost _, .pump => s.withSched { s.sched with lostPump := countUp s.sched.lostPump }
  | .lost _, .house => s
  | .code _ _ _ _, _ => s

/-- An outcome is delivered by its owner and window (R57, R58). -/
def deliver (first : Motor) (o : ConversionOutcome) (s : State) : State :=
  let t := countLost o s
  match o.owner with
  | .drum => deliverDrum o t
  | .pump => deliverPump o t
  | .house => deliverHouse first o t

/-- The LOST outcome of a request (R55). -/
def Request.lostOutcome (r : Request) (reason : LostReason) : ConversionOutcome :=
  ⟨r.owner, r.measurand, r.period, r.window, .lost reason⟩

/-- A request's LOST outcome is delivered (R55). No LOST outcome signals both motors, so the order is of no account. -/
def deliverLost (r : Request) (reason : LostReason) (s : State) : State := deliver .drum (r.lostOutcome reason) s

/-! ### The request queue -/

/-- Two requests have the same key: owner, period number and window number (R47). -/
def Request.sameKey (a b : Request) : Bool :=
  decide (a.owner = b.owner) && decide (a.period = b.period) && decide (a.window = b.window)

/-- DRUM before PUMP before HOUSE (R49). -/
def Owner.rank : Owner → Nat
  | .drum => 0
  | .pump => 1
  | .house => 2

/-- `a` stands ahead of `b` by latest start, then owner, then window number (R49, R2). -/
def Request.ahead (a b : Request) : Bool :=
  if a.latest ≠ b.latest then passed a.latest b.latest
  else if a.owner.rank ≠ b.owner.rank then decide (a.owner.rank < b.owner.rank)
  else decide (a.window < b.window)

/-- A request takes its place in the queue, behind those it is not ahead of (R49). -/
def insertRequest (r : Request) : List Request → List Request
  | [] => [r]
  | x :: rest => if r.ahead x then r :: x :: rest else x :: insertRequest r rest

/-- `s` with the request queue replaced. -/
def State.withQueue (s : State) (q : List Request) : State := s.withSched { s.sched with queue := q }

/-- A request joins the queue (R49): it replaces a queued request with its key, which is lost as SUPERSEDED (R50), and
is itself lost as QUEUE_FULL where eight others wait (R51). -/
def joinRequest (r : Request) (s : State) : State :=
  match s.sched.queue.find? (Request.sameKey r) with
  | some old =>
    let t := deliverLost old .superseded (s.withQueue (s.sched.queue.eraseP (Request.sameKey r)))
    t.withQueue (insertRequest r t.sched.queue)
  | none =>
    if s.sched.queue.length < Config.requestCapacity then s.withQueue (insertRequest r s.sched.queue)
    else deliverLost r .queueFull s

/-- A source makes a request, unless the measurand's row holds NONE (R48). -/
def makeRequest (r : Request) (s : State) : State := if assigned r.measurand s then joinRequest r s else s

/-- The queued requests of a measurand leave with LOST UNASSIGNED (R62). -/
def unassign (m : Measurand) (s : State) : State :=
  (s.sched.queue.filter fun r => decide (r.measurand = m)).foldl (fun t r => deliverLost r .unassigned t)
    (s.withQueue (s.sched.queue.filter fun r => decide (r.measurand ≠ m)))

/-! ### The arbiter and expiry -/

/-- A queued request may be started at this tick: its E has been reached and its L has not been passed (R52). -/
def Request.eligible (now : Tick) (r : Request) : Bool := reached r.earliest now && !passed r.latest now

/-- The request the arbiter would start now (R52): none while the converter is busy, or while a period start of this
tick, whose requests the choice has to see, is still to be taken (log 22). -/
def arbiterChoice (s : State) : Option Request :=
  if s.sched.converter.isSome || drumStartDue s || pumpStartDue s then none
  else s.sched.queue.find? (Request.eligible s.time.tick)

/-- The arbiter starts a conversion (R45, R46, R52). -/
def startConversion (r : Request) (s : State) : State :=
  s.withSched
    { s.sched with
      queue := s.sched.queue.erase r
      converter := some ⟨r, (inputRow r.measurand s).input, s.time.tick, s.time.stepTick⟩ }

/-- The conversion that ends at this tick (R45). -/
def conversionDue (s : State) : Option Conversion :=
  match s.sched.converter with
  | some c => if reached (later c.start Config.conversionTicks) s.time.tick then some c else none
  | none => none

/-- The CODE outcome of a conversion, corrected with the row as it stands at the delivery (R55, R56). -/
def codeOutcome (c : Conversion) (raw : Code) (s : State) : ConversionOutcome :=
  ⟨c.request.owner, c.request.measurand, c.request.period, c.request.window,
    .code raw (correctedValue c.request.measurand raw (inputRow c.request.measurand s).offset) c.start c.startStep⟩

/-- A conversion ends: the converter is idle and the CODE outcome is delivered (R45, R55). -/
def finishConversion (c : Conversion) (raw : Code) (first : Motor) (s : State) : State :=
  deliver first (codeOutcome c raw s) (s.withSched { s.sched with converter := none })

/-- The first queued request whose latest start has been passed (R54). -/
def expiredRequest (s : State) : Option Request := s.sched.queue.find? fun r => passed r.latest s.time.tick

/-- A request expires (R54). -/
def expire (r : Request) (s : State) : State := deliverLost r .converterBusy (s.withQueue (s.sched.queue.erase r))

/-! ### The sources -/

/-- A housekeeping request of the drum period beginning, with L this many ticks after its start (R64, R65). -/
def houseRequest (m : Measurand) (window span : Nat) (s : State) : Request :=
  ⟨.house, m, s.drumCar.period, window, s.time.tick, later s.time.tick span⟩

/-- The housekeeping requests of a drum period start: BUS, and TEMP and AUX when the number is a multiple of 64, joining in
this order (R64, R65; log 29). -/
def houseRequests (s : State) : State :=
  let t := makeRequest (houseRequest .bus 1 (s.drumCar.half / 2) s) s
  if housePeriod s then
    makeRequest (houseRequest .aux 3 s.drumCar.half s) (makeRequest (houseRequest .temp 2 s.drumCar.half s) t)
  else t

/-- A request of the plan in force, its E and L counted from this period start (R38, R40). -/
def planRequest (window : Nat) (span : Option RequestSpan) (s : State) : State :=
  match span with
  | none => s
  | some p =>
    makeRequest
      ⟨.drum, .drumShunt, s.drumCar.period, window, later s.time.tick p.earliest, later s.time.tick p.latest⟩ s

/-- The calibration request of the drum period beginning (R85). -/
def drumCalibrationRequest (s : State) : State :=
  makeRequest ⟨.drum, .drumShunt, s.drumCar.period, 1, s.time.tick, later s.time.tick s.drumCar.half⟩ s

/-- The calibration request of the pump period beginning (R69). -/
def pumpCalibrationRequest (s : State) : State :=
  makeRequest ⟨.pump, .pumpShunt, s.pumpCar.period, 1, s.time.tick, later s.time.tick s.pumpCar.half⟩ s

/-- The measurand of a phase's voltage (R68). -/
def phaseVoltage : Phase → Measurand
  | .a => .pumpVa
  | .b => .pumpVb
  | .c => .pumpVc

/-- The pump window of the period beginning is wide enough for requests: L is not before E (R67). -/
def pumpWindowOpen (s : State) : Bool :=
  decide (minWindow s.setup.dt s.setup.tsettle ≤ 2 * s.comm.onTime)

/-- The earliest start of the pump requests (R67). -/
def pumpEarliest (s : State) : Tick :=
  later s.time.tick (s.pumpCar.half - s.comm.onTime + s.setup.dt + s.setup.tsettle)

/-- The latest start of the pump requests (R67). -/
def pumpLatest (s : State) : Tick :=
  later s.time.tick (s.pumpCar.half + s.comm.onTime - Config.acquisition)

/-- A request of the pump window of the period beginning (R67). -/
def pumpRequest (m : Measurand) (window : Nat) (s : State) : State :=
  makeRequest ⟨.pump, m, s.pumpCar.period, window, pumpEarliest s, pumpLatest s⟩ s

/-- The floating-phase request of R68. -/
def floatingRequest (s : State) : State := pumpRequest (phaseVoltage (stepRow s).floating) 2 s

/-- The requests of a running pump period (R67, R68): the shunt, and outside ALIGN the floating phase, which joins after
it (R51; log 36). -/
def pumpRequests (s : State) : State :=
  if pumpWindowOpen s then
    let t := pumpRequest .pumpShunt 1 s
    if s.pump.state.detecting then floatingRequest t else t
  else s

end Sys2Proof.Machine
end

