-- ==== Sys2Proof/Machine/ConverterEvents.lean ====
section
/-! DEFINITION. The events of the Converter Scheduler (R45, R52, R54). -/

namespace Sys2Proof.Machine

/-- CONVERSION_START (R52): the arbiter's choice, if it has one now (log 3). -/
def execConversionStart (s : State) : Answer State :=
  .next (match arbiterChoice s with
    | some r => startConversion r s
    | none => s)

/-- CONVERSION_DONE (R45): the conversion that ends at this tick yields `code`, if there is one (log 3). -/
def execConversionDone (code : Code) (first : Motor) (s : State) : Answer State :=
  .next (match conversionDue s with
    | some c => finishConversion c code first s
    | none => s)

/-- REQUEST_EXPIRY (R54): the first queued request whose latest start has been passed leaves, if there is one (log 3). -/
def execRequestExpiry (s : State) : Answer State :=
  .next (match expiredRequest s with
    | some r => expire r s
    | none => s)

end Sys2Proof.Machine
end

