-- ==== Sys2Proof/Machine/Periods.lean ====
section
/-! DEFINITION. What a drum period start and a pump period start do at the blocks that take them: the permit (R17, R18),
the drum's stop and entry to RUN (R93, R94), the plan (R40), the calibrations (R85, R133), and the pump's on-time,
marks and requests (R110, R113, R67 to R69). -/

namespace Sys2Proof.Machine

/-! ### Permit validation (R17, R18) -/

/-- The permit history after a sample: at most three, oldest first (R17). -/
def sampleHistory (h : List Bool) (sample : Bool) : List Bool := (h ++ [sample]).drop (h.length + 1 - 3)

/-- The validated permit after a sample: three samples of one level decide it (R17). -/
def validatePermit (h : List Bool) (old : Bool) : Bool :=
  if h = [true, true, true] then true
  else if h = [false, false, false] then false
  else old

/-- A change of the validated permit at the gate outputs and, to INACTIVE, at both state controls (R18). -/
def permitChanged (before : State) (first : Motor) (s : State) : State :=
  let t := applyForcing .pump (forcing .pump before) (applyForcing .drum (forcing .drum before) s)
  if t.input.permit then t else bothMotors first drumPermitLost pumpPermitLost t

/-- A PERMIT sample is taken, and a change of the validated permit with it (R17, R18). -/
def takePermit (sample : Bool) (first : Motor) (s : State) : State :=
  let h := sampleHistory s.input.history sample
  let v := validatePermit h s.input.permit
  let t := s.withInput { s.input with history := h, permit := v }
  if v = s.input.permit then t else permitChanged s first t

/-! ### The drum period start -/

/-- The Drum Carrier begins the next period: number, H in force, position (R3, R8). The period entry of the period
ending is taken out, to be closed (R71). -/
def beginDrumPeriod (s : State) : State :=
  let t := s.withDrumCar
    { s.drumCar with
      pos := 0
      half := s.drumCar.latchedHalf
      period := s.drumCar.period + 1
      planTaken := false }
  t.withRecon { t.recon with periodEntry := none }

/-- The state a pending stop takes the drum to (R94). -/
def StopKind.target : StopKind → DrumState
  | .coast => .off
  | .brake => .brake

/-- A pending stop is taken: the drum leaves RUN (R94). -/
def takeStop (s : State) : State :=
  match s.drum.state, s.drum.stopPending with
  | .run, some k => changeDrum k.target s
  | _, _ => s

/-- A drum in READY with a prepared plan enters RUN with zero last fresh currents, or SAFE with cause PERMIT (R75,
R93). -/
def enterRun (s : State) : State :=
  if s.drum.state = .ready ∧ s.planner.prepared.isSome = true then
    if s.input.permit || s.drum.dry then
      let t := s.withRecon { s.recon with lastFresh := ⟨0, 0, 0⟩ }
      changeDrum .run t
    else enterDrumSafe .permit s
  else s

/-- The levels of a plan at a position reach the three drum phases (R37, R40). -/
def commandPlan (p : Plan) (pos : Nat) (s : State) : State :=
  drive .drum .c (planLevel p .c pos) (drive .drum .b (planLevel p .b pos) (drive .drum .a (planLevel p .a pos) s))

/-- The prepared plan of a drum in RUN comes into force: its levels at the period start, its period entry and its
requests, that of window 1 joining before that of window 2 (R40, R51, R71; log 36). A drum not in RUN discards any
prepared plan. -/
def applyPlan (s : State) : State :=
  if s.drum.state = .run then
    let t := s.withPlanner { s.planner with inForce := s.planner.prepared, prepared := none }
    match s.planner.prepared with
    | none => t
    | some p => planRequest 2 p.request2 (planRequest 1 p.request1 (openPeriodEntry p (commandPlan p 0 t)))
  else s.withPlanner { s.planner with prepared := none }

/-- Drum calibration at a period start in OFFSET: a request, or SAFE after 256 periods (R85). -/
def calibrateDrum (s : State) : State :=
  if s.drum.state = .offset then
    if s.drum.calib.periods = 256 then enterDrumSafe .offsetRange s
    else
      drumCalibrationRequest
        (s.withDrum
          { s.drum with
            calib := { s.drum.calib with periods := s.drum.calib.periods + 1, period := some s.drumCar.period } })
  else s

/-- The entry of the period ending is closed, if one is open (R71). -/
def closeEnding (e : Option PeriodEntry) (s : State) : State :=
  match e with
  | some e => closePeriod e s
  | none => s

/-- The close of the entry of the period ending signals OVERCURRENT (R76). -/
def endingTrips (e : Option PeriodEntry) (s : State) : Bool :=
  match e with
  | some e => closeTrips e s
  | none => false

/-- `f` is taken when `b` holds: one turn of an order left open (log 5). -/
def takeIf (b : Bool) (f : State → State) (s : State) : State := if b then f s else s

/-- A drum period start at every block, in the order `o` where the rules leave one (R3, R17, R18, R40, R71, R73, R77,
R82, R93, R94, R97; log 5, 6). The permit change has a turn before the close, before and after the entry to RUN, after
the plan application, and after an OVERCURRENT taken there. The HOUSE record of the period ending joins before the
notices of the state changes made here, but for those of a permit change or a stop taken before the close (log 30). An
OVERCURRENT reaches a drum that was in RUN. -/
def drumPeriodStart (permit : Bool) (o : PeriodOrder) (s0 : State) : State :=
  let e := s0.recon.periodEntry
  let s1 := beginDrumPeriod s0
  let s2 := takeIf (decide (o.permitTurn = .beforeClose)) (takePermit permit o.first) s1
  let s3 := takeIf o.stopFirst takeStop s2
  let trips := decide (s0.drum.state = .run) && endingTrips e s3
  let s4 := closeHouse (closeEnding e s3)
  let s5 := takeIf (decide (o.permitTurn = .beforeEntry)) (takePermit permit o.first) s4
  let s6 := takeIf (trips && o.tripFirst) drumOvercurrent s5
  let s7 := enterRun (takeStop s6)
  let s8 := takeIf o.houseFirst houseRequests (openHouse s7)
  let s9 := takeIf (decide (o.permitTurn = .afterEntry)) (takePermit permit o.first) s8
  let s10 := calibrateDrum (takeIf (!o.houseFirst) houseRequests (applyPlan s9))
  let s11 := takeIf (decide (o.permitTurn = .afterPlan)) (takePermit permit o.first) s10
  let s12 := takeIf (trips && !o.tripFirst) drumOvercurrent s11
  takeIf (decide (o.permitTurn = .afterTrip)) (takePermit permit o.first) s12

/-! ### The pump period start -/

/-- The Pump Carrier begins the next period (R4, R9). -/
def beginPumpPeriod (s : State) : State :=
  s.withPumpCar
    { s.pumpCar with
      pos := 0
      half := s.pumpCar.pendingHalf
      period := s.pumpCar.period + 1
      peakTaken := false }

/-- In CLOSED a pending duty becomes the duty in force (R137). -/
def applyPendingDuty (s : State) : State :=
  if s.pump.state = .closed then
    match s.pump.pendingDuty with
    | some d => s.withPump { s.pump with dutyInForce := d, pendingDuty := none }
    | none => s
  else s

/-- In ALIGN the align count rises (R134). At the second pump period start after the entry to ALIGN, the align entry
time becomes none (R138); the period start that a SETUP makes counts among them (R5, R128; log 31). -/
def countAlign (s : State) : State :=
  s.withPump
    { s.pump with
      alignCount := if s.pump.state = .align then countUp s.pump.alignCount else s.pump.alignCount
      alignStarts := runUp 2 s.pump.alignStarts
      alignEntry := if runUp 2 s.pump.alignStarts = 2 then none else s.pump.alignEntry }

/-- The duty of the pump period beginning (R131); none outside the running states. -/
def periodDuty (s : State) : Option Word :=
  match s.pump.state with
  | .align => some s.pump.profile.alignDuty
  | .ramp => s.pump.rampPosition.map fun p => (s.pump.ramp[p.row]).duty
  | .closed => some s.pump.dutyInForce
  | .off => none
  | .offset => none
  | .safe => none

/-- The pump on-time Tp of the period beginning (R110). -/
def periodOnTime (s : State) : Nat :=
  match periodDuty s with
  | some d => trimPulse s.pumpCar.half s.setup.dt (rawOnTime d s.pumpCar.half)
  | none => 0

/-- The pump on-time is fixed (R110). -/
def fixOnTime (s : State) : State := s.withComm { s.comm with onTime := periodOnTime s }

/-- The marks with a new entry: at most two, oldest first (R113). -/
def pushMark (marks : List DetectionMark) (m : DetectionMark) : List DetectionMark :=
  (marks ++ [m]).drop (marks.length + 1 - 2)

/-- The detection mark and the blanking count of the period beginning (R113). An EXAMINED period without a
floating-phase request breaks the ZC run (R115), unless the step's crossing is accepted (R116; log 14). -/
def markPeriod (s : State) : State :=
  if s.pump.state.detecting then
    let examined := decide (s.comm.blanking = 0)
    let t := s.withComm
      { s.comm with
        marks := pushMark s.comm.marks ⟨s.pumpCar.period, examined⟩
        blanking := s.comm.blanking - 1 }
    if examined = true ∧ pumpWindowOpen t = false ∧ t.comm.stepZc = none then breakRun t else t
  else s.withComm { s.comm with marks := [], blanking := 0 }

/-- The pump calibration at a period start in OFFSET (R69, R133); `schedulerFirst` is the order of R133 at the 257th. -/
def calibratePump (schedulerFirst : Bool) (s : State) : State :=
  if s.pump.calib.periods = 256 then
    enterPumpSafe .offsetRange (takeIf schedulerFirst pumpCalibrationRequest s)
  else
    pumpCalibrationRequest
      (s.withPump
        { s.pump with
          calib := { s.pump.calib with periods := s.pump.calib.periods + 1, period := some s.pumpCar.period } })

/-- A pump period start at every block but the carrier (R67 to R69, R110, R111, R113, R133, R134, R137). -/
def openPumpPeriod (schedulerFirst : Bool) (s : State) : State :=
  let t := markPeriod (fixOnTime (countAlign (applyPendingDuty s)))
  if t.pump.state.running then pumpRequests (commandStep t)
  else if t.pump.state = .offset then calibratePump schedulerFirst t
  else t

end Sys2Proof.Machine
end

