-- ==== Sys2Proof/Machine/DrumEvents.lean ====
section
/-! DEFINITION. The events of the Drum Carrier: period start, plan point, plan edge (R3, R8, R24 to R27, R37). -/

namespace Sys2Proof.Machine

/-- DRUM_PERIOD_START (R3): taken when the counter has returned to 0 (log 3). -/
def execDrumPeriodStart (permit : Bool) (order : PeriodOrder) (s : State) : Answer State :=
  .next (if drumStartDue s then drumPeriodStart permit order s else s)

/-- The plan point of this period is due: the counter has come down to Lp, 2H − Lp ticks after the period start (R3). -/
def planPointDue (s : State) : Bool :=
  s.time.running && !s.drumCar.planTaken && decide (2 * s.drumCar.half ≤ s.drumCar.pos + s.setup.lp)

/-- The Drum Carrier at the plan point: the pending H is latched for the next period (R8). -/
def latchHalf (s : State) : State :=
  s.withDrumCar { s.drumCar with latchedHalf := s.drumCar.pendingHalf, planTaken := true }

/-- A LATE_DUTY notice at the first miss of a run (R26). -/
def lateNotice (first : Bool) (s : State) : State :=
  if first then joinNotice (.lateDuty s.drumCar.period) s else s

/-- A miss (R26): the counter, the notice of the first, then a plan from the last applied fractions, or SAFE at Kmiss. -/
def countMiss (s : State) : State :=
  let first := decide (s.planner.misses = 0)
  let t := lateNotice first (s.withPlanner { s.planner with misses := s.planner.misses + 1 })
  if t.planner.misses < t.setup.kmiss then preparePlan t.planner.lastApplied t else enterDrumSafe .lateDuty t

/-- The Drum Planner at the plan point, by the drum state and the slot (R24 to R27). -/
def planAtPoint (s : State) : State :=
  match s.drum.state, s.drum.stopPending, s.planner.slot with
  | .ready, _, some d => takeEntry d s
  | .run, none, some d => takeEntry d s
  | .run, none, none => countMiss s
  | _, _, _ => s

/-- PLAN_POINT (R24): taken when it is due (log 3). -/
def execPlanPoint (s : State) : Answer State := .next (if planPointDue s then planAtPoint (latchHalf s) else s)

/-- The edge of the plan in force that this phase meets now (R37): the level the plan commands at this position is not
the one commanded (R11). Only in RUN, and only before the period's end (R40, R42). -/
def planEdgeDue (x : Phase) (s : State) : Option Drive :=
  match s.drum.state, s.planner.inForce with
  | .run, some p =>
    if s.drumCar.pos < 2 * s.drumCar.half ∧ planLevel p x s.drumCar.pos ≠ (s.drumGates.get x).commanded then
      some (planLevel p x s.drumCar.pos)
    else none
  | _, _ => none

/-- PLAN_EDGE (R37): the phase's commanded state changes at the Gate Output Stage (R11); taken when it is due (log 3). -/
def execPlanEdge (phase : Phase) (s : State) : Answer State :=
  .next (match planEdgeDue phase s with
    | some d => drive .drum phase d s
    | none => s)

end Sys2Proof.Machine
end

