-- ==== Sys2Proof/Machine/Lines.lean ====
section
/-! DEFINITION. The FAULT lines and the enable times of the gate outputs (R10, R13, R14, R16). -/

namespace Sys2Proof.Machine

/-- A FAULT line changes its level: the line, and its motor's forcing (R13, R14, R16). -/
def moveFaultLine (m : Motor) (active : Bool) (s : State) : State :=
  applyForcing m (forcing m s)
    (match m with
     | .drum => s.withInput { s.input with faultD := active }
     | .pump => s.withInput { s.input with faultP := active })

/-- The motor's state control sees its FAULT line fall (R95, R97, R140, R141). -/
def gateFault (m : Motor) (s : State) : State :=
  match m with
  | .drum => drumGateFault s
  | .pump => pumpGateFault s

/-- FAULT_LINE_FALL (R16). A line that is low already does not fall. -/
def execFaultLineFall (motor : Motor) (s : State) : Answer State :=
  .next (if faultActive motor s then s else gateFault motor (moveFaultLine motor true s))

/-- FAULT_LINE_RISE (R14, R16). A line that is high already does not rise. -/
def execFaultLineRise (motor : Motor) (s : State) : Answer State :=
  .next (if faultActive motor s then moveFaultLine motor false s else s)

/-- ENABLE_TIME_REACHED (R10). An enable time that is not due is not taken (log 3). -/
def execEnableTimeReached (motor : Motor) (phase : Phase) (s : State) : Answer State :=
  .next (if enableDue motor phase s then takeEnable motor phase s else s)

end Sys2Proof.Machine
end

