-- ==== Sys2Proof/Machine/Operands.lean ====
section
/-! DEFINITION. The operands of commands as the values the rules give them: clamping to a range (R6, R7, R28, R61,
R83, R130, R148) and fields that name a value or nothing (R167, section 10.1). -/

namespace Sys2Proof.Machine

/-- A value brought within lo..hi (R6). -/
def clampTo (lo hi n : Nat) : Nat := max lo (min hi n)

/-- Clamping changes the value: it lies outside lo..hi (R6). -/
def outside (lo hi n : Nat) : Bool := decide (n < lo) || decide (hi < n)

/-! ### SETUP and RATE -/

/-- The SETUP store a SETUP frame gives, each field within its range (R6, R28, R83, R148, R167). -/
def clampSetup (f : SetupFields) : SetupStore where
  h := clampTo 1000 8000 f.h.toNat
  hp := clampTo 1000 8000 f.hp.toNat
  dt := clampTo 16 255 f.dt.toNat
  tsettle := clampTo 8 500 f.tsettle.toNat
  lp := clampTo 64 1000 f.lp.toNat
  kmiss := clampTo 1 15 f.kmiss.toNat
  brake := f.brake
  divider := clampTo 1 16 f.divider.toNat
  threshold := clampTo 1 255 f.threshold.toNat

/-- Some field of a SETUP frame has to be clamped (R6). -/
def setupClamped (f : SetupFields) : Bool :=
  outside 1000 8000 f.h.toNat || outside 1000 8000 f.hp.toNat || outside 16 255 f.dt.toNat ||
  outside 8 500 f.tsettle.toNat || outside 64 1000 f.lp.toNat || outside 1 15 f.kmiss.toNat ||
  outside 1 16 f.divider.toNat || outside 1 255 f.threshold.toNat

/-- The pending half-period a RATE field gives: the field clamped, or the pending value where the field is 0 (R7). -/
def rateHalf (field : Word) (pending : Nat) : Nat := if field = 0 then pending else clampTo 1000 8000 field.toNat

/-- A RATE field is clamped: it is not 0 and lies outside its range (R7). -/
def rateClamped (field : Word) : Bool := field != 0 && outside 1000 8000 field.toNat

/-! ### Fields that name a value -/

/-- The direction a PUMP frame's field names (section 10.1). -/
def directionOf (d : BitVec 2) : Option Direction :=
  match d.toNat with
  | 0 => some .forward
  | 1 => some .reverse
  | _ => none

/-- The phase a commutation field names (section 10.1). -/
def phaseOf (p : BitVec 2) : Option Phase :=
  match p.toNat with
  | 0 => some .a
  | 1 => some .b
  | 2 => some .c
  | _ => none

/-- The polarity a commutation field names (section 10.1). -/
def polarityOf (p : BitVec 2) : Option Polarity :=
  match p.toNat with
  | 0 => some .falling
  | 1 => some .rising
  | _ => none

/-- The offset source an INPUT field names (section 10.1). -/
def sourceOf (b : BitVec 2) : Option OffsetSource :=
  match b.toNat with
  | 0 => some .calibrate
  | 1 => some .fixed
  | _ => none

/-- The input an INPUT field names: AIN0..AIN7, NONE for 15, or nothing (section 10.1). -/
def inputOf (b : BitVec 4) : Option (Option (Fin 8)) :=
  if h : b.toNat < 8 then some (some ⟨b.toNat, h⟩)
  else if b.toNat = 15 then some none
  else none

/-- The measurand an INPUT row names (section 10.1). -/
def measurandOf (row : BitVec 4) : Option Measurand :=
  match row.toNat with
  | 0 => some .drumShunt
  | 1 => some .pumpShunt
  | 2 => some .bus
  | 3 => some .pumpVa
  | 4 => some .pumpVb
  | 5 => some .pumpVc
  | 6 => some .temp
  | 7 => some .aux
  | _ => none

/-- The row of a table of `n` rows that a row field names. -/
def rowOf (n : Nat) (row : BitVec 4) : Option (Fin n) := if h : row.toNat < n then some ⟨row.toNat, h⟩ else none

/-- A 12-bit code field of an INPUT frame: above 4095 becomes 4095 (R61). -/
def clampCode (w : Word) : Code := BitVec.ofNat 12 (min w.toNat 4095)

/-- The INPUT row that valid fields give (R61). -/
def inputRowOf (source : BitVec 2) (input : BitVec 4) (offset trip : Word) : Option InputRow :=
  match inputOf input, sourceOf source with
  | some i, some src => some ⟨i, src, clampCode offset, clampCode trip⟩
  | _, _ => none

/-- An INPUT row is clamped (R61). -/
def inputClamped (offset trip : Word) : Bool := decide (4095 < offset.toNat) || decide (4095 < trip.toNat)

/-- The commutation row that fields naming phases and a polarity give (R107, condition 3). -/
def commutationRowOf (high low floating polarity : BitVec 2) : Option CommutationRow :=
  match phaseOf high, phaseOf low, phaseOf floating, polarityOf polarity with
  | some h, some l, some f, some p => some ⟨h, l, f, p⟩
  | _, _, _, _ => none

/-- The three phase fields name A, B and C once each (R107, condition 4). -/
def CommutationRow.valid (r : CommutationRow) : Bool :=
  decide (r.high ≠ r.low) && decide (r.low ≠ r.floating) && decide (r.high ≠ r.floating)

/-! ### PROFILE, RAMP and RAMP_LENGTH (R130) -/

/-- The start profile a PROFILE frame gives with this start index, its fields within their ranges (R130). -/
def clampProfile (f : ProfileFields) (start : Fin 6) : StartProfile where
  alignDuty := f.alignDuty
  alignPeriods := clampTo 1 65535 f.alignPeriods.toNat
  alpha8 := clampTo 0 232 f.alpha8.toNat
  blanking := clampTo 1 15 f.blanking.toNat
  nstable := clampTo 6 15 f.nstable.toNat
  kzc := clampTo 1 15 f.kzc.toNat
  startIndex := start

/-- Some field of a PROFILE frame is clamped (R130). -/
def profileClamped (f : ProfileFields) : Bool :=
  outside 1 65535 f.alignPeriods.toNat || outside 0 232 f.alpha8.toNat || outside 1 15 f.blanking.toNat ||
  outside 6 15 f.nstable.toNat || outside 1 15 f.kzc.toNat

/-- The start index a PROFILE frame names, 0..5 (R130). -/
def startIndexOf (i : BitVec 3) : Option (Fin 6) := if h : i.toNat < 6 then some ⟨i.toNat, h⟩ else none

/-- The ramp row a RAMP frame gives (R130). -/
def clampRamp (interval : BitVec 24) (repeats : BitVec 8) (duty : Word) : RampRow :=
  ⟨clampTo 100 16777215 interval.toNat, clampTo 1 255 repeats.toNat, duty⟩

/-- A RAMP frame is clamped (R130). -/
def rampClamped (interval : BitVec 24) (repeats : BitVec 8) : Bool :=
  outside 100 16777215 interval.toNat || outside 1 255 repeats.toNat

end Sys2Proof.Machine
end

