-- ==== Sys2Proof/Machine/Upstream.lean ====
section
/-! DEFINITION. The upstream frame: codes, the header and the words of every record (R162, R168, chapter 10). -/

namespace Sys2Proof.Machine

/-! ### Codes (section 10.2) -/

/-- The code of a result (section 10.2). -/
def Result.code : Result → BitVec 4
  | .none => 0
  | .ok => 1
  | .okClamped => 2
  | .checkError => 3
  | .lengthError => 4
  | .unknownKind => 5
  | .notSetUp => 6
  | .busy => 7
  | .badState => 8
  | .badArgument => 9
  | .tableInvalid => 10
  | .notAssigned => 11
  | .noPermit => 12
  | .broke => 13

/-- The kind code of a record (section 10.2). -/
def Record.kindCode : Record → BitVec 4
  | .drum _ => 1
  | .step _ => 2
  | .house _ => 3
  | .notice _ _ _ => 4
  | .status _ => 5

/-- The code of a drum state (section 10.2). -/
def DrumState.code : DrumState → BitVec 3
  | .off => 0
  | .offset => 1
  | .ready => 2
  | .run => 3
  | .brake => 4
  | .safe => 5

/-- The code of a pump state (section 10.2). -/
def PumpState.code : PumpState → BitVec 3
  | .off => 0
  | .offset => 1
  | .align => 2
  | .ramp => 3
  | .closed => 4
  | .safe => 5

/-- The code of a cause (section 10.2). -/
def Cause.code : Cause → BitVec 4
  | .lateDuty => 1
  | .overcurrent => 2
  | .permit => 3
  | .gateFault => 4
  | .overTemp => 5
  | .linkBreak => 6
  | .offsetRange => 7
  | .stall => 8
  | .startFail => 9

/-- The code of a reset cause (section 10.2). -/
def ResetCause.code : ResetCause → BitVec 2
  | .power => 0
  | .pin => 1
  | .command => 2

/-- The code of a phase (section 10.1). -/
def phaseCode : Phase → BitVec 2
  | .a => 0
  | .b => 1
  | .c => 2

/-- The code of a polarity (section 10.1). -/
def Polarity.code : Polarity → BitVec 2
  | .falling => 0
  | .rising => 1

/-- The code of a direction (section 10.1). -/
def Direction.code : Direction → BitVec 1
  | .forward => 0
  | .reverse => 1

/-- The code of an offset source (section 10.1). -/
def OffsetSource.code : OffsetSource → BitVec 2
  | .calibrate => 0
  | .fixed => 1

/-- The code of an input, NONE as 15 (section 10.1). -/
def inputCode : Option (Fin 8) → BitVec 4
  | some i => BitVec.ofNat 4 i.val
  | none => 15

/-- The code of a commutation kind (section 10.2). -/
def StepKind.code : StepKind → BitVec 2
  | .accepted => 0
  | .forced => 1
  | .ramp => 2

/-- The code of a pending stop (section 10.2). -/
def stopCode : Option StopKind → BitVec 2
  | none => 0
  | some .coast => 1
  | some .brake => 2

/-! ### Fields -/

/-- An unsigned field of a word (R168). -/
def unsigned (n : Nat) : Word := BitVec.ofNat 16 n

/-- A signed field of a word, in two's complement (R168). -/
def signed (i : Int) : Word := BitVec.ofInt 16 i

/-- One bit. -/
def flag (b : Bool) : BitVec 1 := BitVec.ofBool b

/-- An unsigned field that may be absent: 0xFFFF when absent (R168). -/
def unsignedOr (n : Option Nat) : Word :=
  match n with
  | some v => unsigned v
  | none => 0xFFFF

/-- A signed field that may be absent: 0x8000 when absent (R168). -/
def signedOr (i : Option Int) : Word :=
  match i with
  | some v => signed v
  | none => 0x8000

/-- Bits 23..16 of an interval; 0xFF when absent (R168). -/
def intervalHigh (n : Option Nat) : BitVec 8 :=
  match n with
  | some v => (BitVec.ofNat 24 v).extractLsb' 16 8
  | none => 0xFF

/-- Bits 15..0 of an interval; 0xFFFF when absent (R168). -/
def intervalLow (n : Option Nat) : Word :=
  match n with
  | some v => (BitVec.ofNat 24 v).extractLsb' 0 16
  | none => 0xFFFF

/-- A cause record in one word: the first cause in 3..0, the further cause n at bit 3 + n; 0 when empty (section 10.2). -/
def causeWord (c : Option CauseRecord) : Word :=
  match c with
  | none => 0
  | some r =>
    0#6 ++ flag r.further.linkBreak ++ 0#1 ++ flag r.further.gateFault ++ flag r.further.permit ++ 0#2 ++ r.first.code

/-- The first cause of a cause record that is not empty. -/
def firstCode (c : CauseRecord) : BitVec 4 := c.first.code

/-! ### Records -/

/-- Words 1 to 6 of an upstream frame. -/
structure Payload where
  w1 : Word
  w2 : Word
  w3 : Word
  w4 : Word
  w5 : Word
  w6 : Word
  deriving DecidableEq, Repr, Inhabited

/-- A payload of zeros: FILL (section 10.2). -/
def Payload.zero : Payload := ⟨0, 0, 0, 0, 0, 0⟩

/-- The words of a DRUM record (section 10.2). -/
def DrumRecord.words (r : DrumRecord) : Payload where
  w1 := r.period
  w2 := signed r.currents.a
  w3 := signed r.currents.b
  w4 := signed r.currents.c
  w5 := unsignedOr r.bus
  w6 := 0#4 ++ flag r.bus.isSome ++ flag r.dry ++ flag r.busHigh ++ flag r.trimmed ++ 0#1 ++ flag r.shift2 ++
    flag r.shift1 ++ flag r.lost2 ++ flag r.lost1 ++ flag r.short2 ++ flag r.short1 ++ flag r.fresh

/-- The words of a PUMP_STEP record (section 10.2). -/
def StepRecord.words (r : StepRecord) : Payload where
  w1 := r.period
  w2 := 0#6 ++ flag r.mean.isSome ++ flag r.interval.isSome ++ 0#2 ++ r.kind.code ++ 0#1 ++
    BitVec.ofNat 3 r.stepIndex.val
  w3 := 0#8 ++ intervalHigh r.interval
  w4 := intervalLow r.interval
  w5 := signedOr r.mean
  w6 := unsigned r.count

/-- The words of a HOUSE record (section 10.2). -/
def HouseRecord.words (r : HouseRecord) : Payload where
  w1 := r.period
  w2 := unsignedOr r.bus
  w3 := unsignedOr r.temp
  w4 := unsignedOr r.aux
  w5 := 0
  w6 := 0#13 ++ flag r.aux.isSome ++ flag r.temp.isSome ++ flag r.bus.isSome

/-- The notice code (section 10.2). -/
def Notice.code : Notice → BitVec 8
  | .reset _ => 0
  | .drumState _ => 1
  | .pumpState _ => 1
  | .safeEntry _ _ => 2
  | .lateDuty _ => 3
  | .drumBlind _ => 4
  | .zcMiss _ _ => 5
  | .busHigh _ _ => 6
  | .linkDegraded _ => 7
  | .linkBreak => 8
  | .offsetDone _ _ => 9

/-- The motor bit of a notice: clear where the code carries no motor (R168). -/
def Notice.motorBit : Notice → BitVec 1
  | .reset _ => 0
  | .drumState _ => 0
  | .pumpState _ => 1
  | .safeEntry .drum _ => 0
  | .safeEntry .pump _ => 1
  | .lateDuty _ => 0
  | .drumBlind _ => 0
  | .zcMiss _ _ => 0
  | .busHigh _ _ => 0
  | .linkDegraded _ => 0
  | .linkBreak => 0
  | .offsetDone .drum _ => 0
  | .offsetDone .pump _ => 1

/-- Word 4 of a notice (section 10.2). -/
def Notice.word4 : Notice → Word
  | .reset c => c.code.setWidth 16
  | .drumState st => st.code.setWidth 16
  | .pumpState st => st.code.setWidth 16
  | .safeEntry _ c => c.code.setWidth 16
  | .lateDuty p => p
  | .drumBlind p => p
  | .zcMiss p _ => p
  | .busHigh p _ => p
  | .linkDegraded t => unsigned t
  | .linkBreak => 0
  | .offsetDone _ o => unsigned o

/-- Word 5 of a notice (section 10.2). -/
def Notice.word5 : Notice → Word
  | .zcMiss _ i => unsigned i.val
  | .busHigh _ c => unsigned c
  | .reset _ => 0
  | .drumState _ => 0
  | .pumpState _ => 0
  | .safeEntry _ _ => 0
  | .lateDuty _ => 0
  | .drumBlind _ => 0
  | .linkDegraded _ => 0
  | .linkBreak => 0
  | .offsetDone _ _ => 0

/-- The words of a notice with its time stamp (section 10.2). -/
def Notice.words (n : Notice) (period : Word) (offset : Nat) : Payload where
  w1 := n.motorBit ++ 0#7 ++ n.code
  w2 := period
  w3 := unsigned offset
  w4 := n.word4
  w5 := n.word5
  w6 := 0

/-! ### Status pages -/

/-- The sticky flags of the LINK page (section 10.2). -/
def StickyFlags.word (f : StickyFlags) : Word :=
  0#8 ++ flag f.broke ++ flag f.snapshotLost ++ flag f.linkDegraded ++ flag f.dutyOverwrite ++ flag f.overrun ++
  flag f.refused ++ flag f.lengthErr ++ flag f.checkErr

/-- Words 1 to 4 of the TABLE frame of a row (section 10.1). -/
def TableContent.words : TableContent → Word × Word × Word × Word
  | .commutation r =>
    (0#2 ++ phaseCode r.high ++ 0#2 ++ phaseCode r.low ++ 0#2 ++ phaseCode r.floating ++ 0#2 ++ r.polarity.code, 0, 0, 0)
  | .ramp r => (0#8 ++ intervalHigh (some r.interval), intervalLow (some r.interval), unsigned r.repeats, r.duty)
  | .profile p =>
    (p.alignDuty, unsigned p.alignPeriods, unsigned p.alpha8,
      BitVec.ofNat 4 p.blanking ++ BitVec.ofNat 4 p.nstable ++ BitVec.ofNat 4 p.kzc ++ 0#1 ++
        BitVec.ofNat 3 p.startIndex.val)
  | .rampLength n => (unsigned n, 0, 0, 0)
  | .input r =>
    (0#6 ++ r.source.code ++ 0#4 ++ inputCode r.input, r.offset.setWidth 16, r.trip.setWidth 16, 0)

/-- Word 1 of a STATUS record: valid and page (section 10.2). -/
def pageWord (valid : Bool) (page : BitVec 4) : Word := flag valid ++ 0#11 ++ page

/-- The words of a ring page (section 10.2). -/
def ringWords (page : BitVec 4) (first second third : Option Nat) : Payload where
  w1 := pageWord true page
  w2 := intervalHigh first ++ intervalHigh second
  w3 := 0#5 ++ flag third.isSome ++ flag second.isSome ++ flag first.isSome ++ intervalHigh third
  w4 := intervalLow first
  w5 := intervalLow second
  w6 := intervalLow third

/-- The words of the LINK page (section 10.2). -/
def LinkPage.words (p : LinkPage) : Payload where
  w1 := pageWord true 0
  w2 := 0#10 ++ p.cause.code ++ 0#3 ++ flag (decide (p.state = .ready))
  w3 := unsigned p.checkErrors
  w4 := unsigned p.lengthErrors
  w5 := unsigned p.lostRecords
  w6 := p.flags.word

/-- The words of the DRUM page (section 10.2). -/
def DrumPage.words (p : DrumPage) : Payload where
  w1 := pageWord true 1
  w2 := 0#2 ++ flag p.report ++ flag p.dry ++ BitVec.ofNat 4 p.misses ++ 0#2 ++ stopCode p.stopPending ++ 0#1 ++
    p.state.code
  w3 := causeWord p.cause
  w4 := p.offset.setWidth 16
  w5 := p.period
  w6 := unsigned p.lostConversions

/-- The words of the PUMP page (section 10.2). -/
def PumpPage.words (p : PumpPage) : Payload where
  w1 := pageWord true 3
  w2 := 0#2 ++ flag p.report ++ flag p.dry ++ BitVec.ofNat 4 p.stable ++ p.direction.code ++
    BitVec.ofNat 3 p.stepIndex.val ++ 0#1 ++ p.state.code
  w3 := 0#12 ++ BitVec.ofNat 4 p.zcMisses
  w4 := causeWord p.cause
  w5 := unsigned p.lostConversions
  w6 := 0

/-- The words of the DRUM_SNAP page (section 10.2); not valid and zeros for an empty slot (R168). -/
def drumSnapWords (s : Option DrumSnapshot) : Payload :=
  match s with
  | none => ⟨pageWord false 2, 0, 0, 0, 0, 0⟩
  | some x =>
    ⟨pageWord true 2, x.period, signed x.currents.a, signed x.currents.b, signed x.currents.c,
      0#4 ++ BitVec.ofNat 4 x.misses ++ 0#1 ++ x.before.code ++ firstCode x.cause⟩

/-- The words of the PUMP_SNAP page (section 10.2); not valid and zeros for an empty slot (R168). -/
def pumpSnapWords (s : Option PumpSnapshot) : Payload :=
  match s with
  | none => ⟨pageWord false 6, 0, 0, 0, 0, 0⟩
  | some x =>
    ⟨pageWord true 6, x.period,
      0#2 ++ flag x.lastMean.isSome ++ flag x.lastInterval.isSome ++ firstCode x.cause ++ 0#1 ++ x.before.code ++ 0#1 ++
        BitVec.ofNat 3 x.stepIndex.val,
      0#8 ++ intervalHigh x.lastInterval, intervalLow x.lastInterval, signedOr x.lastMean⟩

/-- The words of the TABLE page (section 10.2). -/
def tablePageWords (id row : BitVec 4) (c : TableContent) : Payload where
  w1 := pageWord true 7
  w2 := 0#8 ++ id ++ row
  w3 := c.words.1
  w4 := c.words.2.1
  w5 := c.words.2.2.1
  w6 := c.words.2.2.2

/-- The words of a STATUS record (section 10.2). -/
def StatusPage.words : StatusPage → Payload
  | .link p => p.words
  | .drum p => p.words
  | .drumSnap x => drumSnapWords x
  | .pump p => p.words
  | .ringA a b c => ringWords 4 a b c
  | .ringB a b c => ringWords 5 a b c
  | .pumpSnap x => pumpSnapWords x
  | .table id row c => tablePageWords id row c

/-- Words 1 to 6 of a record (section 10.2). -/
def Record.words : Record → Payload
  | .drum r => r.words
  | .step r => r.words
  | .house r => r.words
  | .notice n period offset => n.words period offset
  | .status p => p.words

/-! ### The frame -/

/-- The upstream header (R162, section 10.2). -/
def upstreamHeader (kind result : BitVec 4) (depth : BitVec 6) (gap sum : Bool) : Word :=
  kind ++ result ++ depth ++ flag gap ++ flag sum

/-- The kind code of the record shown; FILL with an empty queue (R159, R162). -/
def shownKind (r : Option Record) : BitVec 4 :=
  match r with
  | some x => x.kindCode
  | none => 0

/-- The words of the record shown; zeros for FILL (R159). -/
def shownWords (r : Option Record) : Payload :=
  match r with
  | some x => x.words
  | none => .zero

/-- The upstream frame that the part would fix now (R145, R159, R162, R168). -/
def composeUpstream (s : State) : Frame :=
  let shown := s.rq.records.head?
  let p := shownWords shown
  sealFrame
    (upstreamHeader (shownKind shown) s.link.result.code (BitVec.ofNat 6 (s.rq.records.length - 1)) s.rq.gap (summary s))
    p.w1 p.w2 p.w3 p.w4 p.w5 p.w6

/-- ATTN is high while the queue holds at least one record (R161). -/
def attn (s : State) : Bool := !s.rq.records.isEmpty

/-- The counter of the Drum Carrier (R3). -/
def drumCounter (s : State) : Nat :=
  if s.drumCar.pos ≤ s.drumCar.half then s.drumCar.pos else 2 * s.drumCar.half - s.drumCar.pos

/-- The counter of the Pump Carrier (R4). -/
def pumpCounter (s : State) : Nat :=
  if s.pumpCar.pos ≤ s.pumpCar.half then s.pumpCar.pos else 2 * s.pumpCar.half - s.pumpCar.pos

end Sys2Proof.Machine
end

