-- ==== Sys2Proof/Machine/Link.lean ====
section
/-! DEFINITION. The Link Port: the falling edge of LSEL (R145, R159), completion (R146, R159, R160), deciding a frame
(R151, R153), resets (R155 to R157), and the state of the block queries and tables read. -/

namespace Sys2Proof.Machine

/-! ### The frame -/

/-- A falling edge of LSEL begins a frame (R145): the bit count is 0, the upstream content is fixed, the oldest record
is in transit (R159), and LDO carries the first upstream bit. -/
def beginFrame (s : State) : State :=
  let up := composeUpstream s
  let t := s.withRq { s.rq with inTransit := !s.rq.records.isEmpty }
  t.withLink
    { t.link with
      bitCount := 0
      shift := 0
      frame := some ⟨up, s.rq.gap, false⟩
      ldo := up.w0.msb
      selected := true }

/-- An edge of LCLK during a frame (R145). A rising edge below 128 bits samples LDI into the receive shift register, and
the 128th sample takes LDO to 0 (log 8); a falling edge after a sample puts the next upstream bit on LDO. -/
def takeLinkEdge (e : LinkEdge) (fr : FrameInProgress) (s : State) : State :=
  match e with
  | .rise ldi =>
    if s.link.bitCount < 128 then
      s.withLink
        { s.link with
          bitCount := s.link.bitCount + 1
          shift := (s.link.shift <<< 1) ||| (BitVec.ofBool ldi).setWidth 128
          ldo := s.link.ldo && decide (s.link.bitCount + 1 < 128) }
    else s
  | .fall =>
    if 0 < s.link.bitCount then s.withLink { s.link with ldo := fr.upstream.bits.getMsbD s.link.bitCount } else s

/-- The rising edge of LSEL that ends a frame of this many bits (R145, R146). The command supplies the frame's bits whole,
so the receive shift register is left empty (log 8). -/
def endFrame (bits : Nat) (s : State) : State :=
  s.withLink { s.link with bitCount := bits, shift := 0, frame := none, ldo := false, selected := false }

/-- The Record Queue at a full-length completion: the record in transit leaves (R159), and the gap mark is cleared if
the header carried it and nothing was displaced during the frame (R160). -/
def RecordQueue.sent (f : FrameInProgress) (q : RecordQueue) : RecordQueue :=
  { q with
    records := if q.inTransit then q.records.tail else q.records
    gap := if f.headerGap && !f.displaced then false else q.gap
    inTransit := false }

/-- A frame was sent whole: its record leaves, and it ends with 128 bits (R146, R159). -/
def sentWhole (f : FrameInProgress) (s : State) : State := endFrame 128 (s.withRq (s.rq.sent f))

/-- A frame was cut short: its record stays at the head of the queue (R146, R159). -/
def sentShort (bits : Nat) (s : State) : State := endFrame bits (s.withRq { s.rq with inTransit := false })

/-- The completion of a frame. While RESET_N is low the part takes no frame, and one under way when it returned high is
not taken: LSEL goes high and nothing else happens (R156). With LSEL high before the command, the command stands for
the whole frame, from its falling edge on (log 7). -/
def atCompletion (f : FrameInProgress → State → State) (s : State) : State :=
  if s.link.resetN then
    match s.link.frame with
    | some fr => f fr s
    | none =>
      if s.link.selected then s.withLink { s.link with selected := false }
      else
        match (beginFrame s).link.frame with
        | some fr => f fr (beginFrame s)
        | none => s
  else s.withLink { s.link with selected := false }

/-- A frame other than a break frame sets the break-frame run to 0 (R149). -/
def endBreakRun (s : State) : State := s.withLink { s.link with breakRun := 0 }

/-- What a frame does and its result. -/
abbrev Body := State → State × Result

/-- The result a body gives is stored (R153). -/
def runBody (b : Body) (s : State) : State := setResult (b s).2 (b s).1

/-- A full-length frame, not a break frame, is decided at its completion: the record in transit leaves first (R159),
then its content acts and gives its result (R146, R149, R151, R153), all at one instant (log 33). -/
def decideFrame (b : Body) (s : State) : State :=
  atCompletion (fun fr t => runBody b (endBreakRun (sentWhole fr t))) s

/-- A frame that AWAIT_SETUP refuses with NOT_SET_UP (R151). -/
def whenReady (b : Body) : Body := fun s =>
  if s.link.state = .ready then b s else (s, .notSetUp)

/-- A refused frame changes nothing at the block that refuses it (R153). -/
def refuse (r : Result) : Body := fun s => (s, r)

/-- A short frame (R146). -/
def shortFrame (bits : Nat) (s : State) : State :=
  atCompletion (fun _ t =>
    let u := endBreakRun (sentShort bits t)
    setResult .lengthError
      (setLengthErr (u.withLink { u.link with lengthErrors := countUp u.link.lengthErrors }))) s

/-- A CHECK_ERROR: the counter, CHECK_ERR, and LINK_DEGRADED with its notice when the counter comes to the threshold
(R147, R148). -/
def checkErrorBody : Body := fun s =>
  let n := countUp s.link.checkErrors
  let t := setCheckErr (s.withLink { s.link with checkErrors := n })
  if n = s.setup.threshold ∧ n ≠ s.link.checkErrors then
    (joinNotice (.linkDegraded s.setup.threshold) (setLinkDegraded t), .checkError)
  else (t, .checkError)

/-- A link break: BREAK, the notice, then both state controls in the order the command gives (R150). -/
def linkBreak (first : Motor) (s : State) : State :=
  bothMotors first drumLinkBreak pumpLinkBreak (joinNotice .linkBreak (setBroke s))

/-- A break frame: the run, and a link break when it goes from 1 to 2 (R149, R150). -/
def breakFrame (first : Motor) (s : State) : State :=
  atCompletion (fun fr t =>
    let u := sentWhole fr t
    let v := u.withLink { u.link with breakRun := runUp 2 u.link.breakRun }
    setResult .broke (if u.link.breakRun = 1 then linkBreak first v else v)) s

/-! ### Resets (R155 to R157) -/

/-- Every block at its values after reset (R155 and the reset tables of the chapters), the Record Queue empty. The
lines keep their levels (section 1.7), and the queue of commands and the counter of free values, which are the
model's, stand. -/
def resetPart (cause : ResetCause) (s : State) : State :=
  { State.reset with
    input := { State.reset.input with faultD := s.input.faultD, faultP := s.input.faultP }
    link := { State.reset.link with resetCause := cause, resetN := s.link.resetN, selected := s.link.selected }
    rq := { State.reset.rq with records := [] }
    pending := s.pending
    freeCount := s.freeCount }

/-- The RESET notice joins the emptied queue (R157). -/
def joinResetNotice (s : State) : State := joinNotice (.reset s.link.resetCause) s

/-! ### Both motors -/

/-- Both motors are OFF (R61, R152). -/
def bothOff (s : State) : Bool := decide (s.drum.state = .off) && decide (s.pump.state = .off)

/-- The motor is OFF. -/
def motorOff (m : Motor) (s : State) : Bool :=
  match m with
  | .drum => decide (s.drum.state = .off)
  | .pump => decide (s.pump.state = .off)

/-! ### SETUP (R5, R152) -/

/-- The carriers start or restart at period 0 with the SETUP half-periods (R5). -/
def restartCarriers (s : State) : State :=
  let t := s.withDrumCar ⟨0, s.setup.h, s.setup.h, s.setup.h, 0, false⟩
  t.withPumpCar ⟨0, s.setup.hp, s.setup.hp, 0, false⟩

/-- The Timebase runs from the first accepted SETUP on (R1). -/
def startTimebase (s : State) : State := s.withTime { s.time with running := true }

/-- The restart's period starts of drum period 0 and pump period 0 (R5): the permit sample, the house entry opened
afresh (R83), the housekeeping requests, and the pump blocks' period start, which empties the marks and the blanking
count (R113 over R105, log 31). No period entry is open at a SETUP (R83; log 35). -/
def openFirstPeriods (permit : Bool) (s : State) : State :=
  let t := takePermit permit .drum (s.withRecon { s.recon with periodEntry := none, houseEntry := none })
  openPumpPeriod false (houseRequests (openHouse (applyPlan t)))

/-- An accepted SETUP (R152). -/
def acceptSetup (f : SetupFields) (permit : Bool) (s : State) : State :=
  let t := s.withSetup (clampSetup f)
  let u := t.withLink { t.link with state := .ready }
  openFirstPeriods permit (restartCarriers (startTimebase u))

/-- A SETUP frame: accepted in AWAIT_SETUP, or with both motors OFF; BUSY otherwise (R6, R152). -/
def setupBody (f : SetupFields) (permit : Bool) : Body := fun s =>
  if s.link.state = .ready ∧ bothOff s = false then (s, .busy)
  else (acceptSetup f permit s, takenResult (setupClamped f))

/-! ### Status pages (R164 to R166) -/

/-- The LINK page (R165). -/
def linkPage (s : State) : LinkPage :=
  ⟨s.link.state, s.link.resetCause, s.link.checkErrors, s.link.lengthErrors, s.rq.lost, s.link.flags⟩

/-- The DRUM page (R165). Its period number is the Drum Carrier's own: at the tick of a drum period start that is still to
be taken, the period ending (log 34). -/
def drumPage (s : State) : DrumPage :=
  ⟨s.drum.state, s.drum.stopPending, s.drum.cause, s.planner.misses, (inputRow .drumShunt s).offset, s.drumCar.period,
    s.sched.lostDrum, s.drum.dry, s.drum.report⟩

/-- The PUMP page (R165). -/
def pumpPage (s : State) : PumpPage :=
  ⟨s.pump.state, s.comm.stepIndex, s.comm.direction, s.pump.stable, s.comm.zcMisses, s.sched.lostPump, s.pump.cause,
    s.pump.dry, s.pump.report⟩

/-- The clear flag of a LINK query (R165). -/
def clearLinkCounters (s : State) : State :=
  let t := s.withLink { s.link with checkErrors := 0, lengthErrors := 0 }
  t.withRq { t.rq with lost := 0 }

/-- The row a TABLE query names, as it stands (R164, R165): none where the id names no table or the row lies outside
it. PROFILE and RAMP_LENGTH do not read the row (section 10.1; log 17). -/
def tableContent (id row : BitVec 4) (s : State) : Option TableContent :=
  match id.toNat with
  | 1 => (rowOf 6 row).map fun i => .commutation s.comm.table[i]
  | 2 => (rowOf 16 row).map fun i => .ramp s.pump.ramp[i]
  | 3 => some (.profile s.pump.profile)
  | 4 => (rowOf 8 row).map fun i => .input s.sched.table[i]
  | 5 => some (.rampLength s.pump.rampLength)
  | _ => none

/-- A query's answer: the page is composed from the state as it stands, then the page's own clearing acts, then the
STATUS record joins (R164, R166). -/
def answerQuery (page : StatusPage) (clearing : State → State) : Body := fun s =>
  (joinRecord (.status page) (clearing s), .ok)

end Sys2Proof.Machine
end

