-- ==== Sys2Proof/Machine/PumpEvents.lean ====
section
/-! DEFINITION. The events of the Pump Carrier and of the commutation timing (R4, R111, R120, R121, R134, R135). -/

namespace Sys2Proof.Machine

/-- PUMP_PERIOD_START (R4): taken when the counter has returned to 0 (log 3). -/
def execPumpPeriodStart (schedulerFirst : Bool) (s : State) : Answer State :=
  .next (if pumpStartDue s then openPumpPeriod schedulerFirst (beginPumpPeriod s) else s)

/-- The peak of this period is due: the counter has come to Hp (R4). -/
def pumpPeakDue (s : State) : Bool :=
  s.time.running && !s.pumpCar.peakTaken && decide (s.pumpCar.half ≤ s.pumpCar.pos)

/-- The peak is taken (R4). -/
def takePeak (s : State) : State := s.withPumpCar { s.pumpCar with peakTaken := true }

/-- At the peak of the last align period the pump enters RAMP (R134). -/
def alignAtPeak (s : State) : State :=
  if s.pump.state = .align ∧ s.pump.profile.alignPeriods ≤ s.pump.alignCount then enterRamp s else s

/-- PUMP_PEAK (R134): taken when it is due (log 3). -/
def execPumpPeak (s : State) : Answer State := .next (if pumpPeakDue s then alignAtPeak (takePeak s) else s)

/-- The span edge the step's high phase meets now (R111): the level of the span is not the one commanded. Only in the
running states, and only before the period's end. -/
def spanEdgeDue (s : State) : Bool :=
  s.pump.state.running && decide (s.pumpCar.pos < 2 * s.pumpCar.half) &&
  decide (spanLevel s ≠ (s.pumpGates.get (stepRow s).high).commanded)

/-- PUMP_SPAN_EDGE (R111): the step pattern commands the high phase; taken when it is due (log 3). -/
def execPumpSpanEdge (s : State) : Answer State :=
  .next (if spanEdgeDue s then drive .pump (stepRow s).high (spanLevel s) s else s)

/-- The due commutation time has been reached in CLOSED (R120). -/
def commutationDue (s : State) : Bool :=
  decide (s.pump.state = .closed) && reachedTime s.comm.due s.time.stepTick

/-- DUE_COMMUTATION (R120): a commutation of kind ACCEPTED; taken when it is due (log 3). -/
def execDueCommutation (s : State) : Answer State :=
  .next (if commutationDue s then commutate .accepted none s else s)

/-- The timeout deadline that has been reached in CLOSED with no crossing accepted in the step (R121). -/
def timeoutDue (s : State) : Option Tick :=
  match s.pump.state, s.comm.stepZc, s.comm.deadline with
  | .closed, none, some t => if reached t s.time.stepTick then some t else none
  | _, _, _ => none

/-- ZC_TIMEOUT (R121, R122): taken when it is due (log 3). -/
def execZcTimeout (s : State) : Answer State :=
  .next (match timeoutDue s with
    | some t => takeTimeout t s
    | none => s)

/-- The ramp commutation time has been reached in RAMP (R135). -/
def rampDue (s : State) : Bool := decide (s.pump.state = .ramp) && reachedTime s.pump.rampTime s.time.stepTick

/-- RAMP_COMMUTATION (R135): taken when it is due (log 3). -/
def execRampCommutation (s : State) : Answer State := .next (if rampDue s then rampCommutation s else s)

end Sys2Proof.Machine
end

