-- ==== Sys2Proof/Machine/Clock.lean ====
section
/-! DEFINITION. The passing of time: one tick (R1, R3, R4), which event of the present tick is still to be taken
(log 1, 2), and the edges of LCLK (R145, log 8). -/

namespace Sys2Proof.Machine

/-- The next tick of a running Timebase (R1): the tick count, the step-tick count at each 16th, and both carriers. -/
def passTick (s : State) : State :=
  let tick := s.time.tick + 1
  let t := s.withTime
    { s.time with
      tick := tick
      stepTick := if tick.toNat % 16 = 0 then s.time.stepTick + 1 else s.time.stepTick }
  let u := t.withDrumCar { t.drumCar with pos := t.drumCar.pos + 1 }
  u.withPumpCar { u.pumpCar with pos := u.pumpCar.pos + 1 }

/-- A tick passes, unless the Timebase stands still (R1). -/
def tick (s : State) : State := if s.time.running then passTick s else s

/-- The command `c`, if its event is due. -/
def ifDue (due : Bool) (c : Instr) : List Instr := if due then [c] else []

/-- The events of the present tick that are still to be taken, in the order the idle step takes them (log 2). What an
event needs from outside is a free value (log 4, 5). -/
def dueEvents (s : State) : List Instr :=
  ifDue (drumStartDue s) (.drumPeriodStart (Config.permitLevel s.freeCount) (Config.periodOrder s.freeCount)) ++
  ifDue (pumpStartDue s) (.pumpPeriodStart (Config.schedulerFirst s.freeCount)) ++
  ifDue (conversionDue s).isSome
    (.conversionDone (Config.converterCode s.freeCount) (Config.firstMotor s.freeCount)) ++
  ifDue (planPointDue s) .planPoint ++
  ifDue (pumpPeakDue s) .pumpPeak ++
  ifDue (commutationDue s) .dueCommutation ++
  ifDue (timeoutDue s).isSome .zcTimeout ++
  ifDue (rampDue s) .rampCommutation ++
  ifDue (expiredRequest s).isSome .requestExpiry ++
  ifDue (planEdgeDue .a s).isSome (.planEdge .a) ++
  ifDue (planEdgeDue .b s).isSome (.planEdge .b) ++
  ifDue (planEdgeDue .c s).isSome (.planEdge .c) ++
  ifDue (spanEdgeDue s) .pumpSpanEdge ++
  ifDue (enableDue .drum .a s) (.enableTimeReached .drum .a) ++
  ifDue (enableDue .drum .b s) (.enableTimeReached .drum .b) ++
  ifDue (enableDue .drum .c s) (.enableTimeReached .drum .c) ++
  ifDue (enableDue .pump .a s) (.enableTimeReached .pump .a) ++
  ifDue (enableDue .pump .b s) (.enableTimeReached .pump .b) ++
  ifDue (enableDue .pump .c s) (.enableTimeReached .pump .c) ++
  ifDue (arbiterChoice s).isSome .conversionStart

/-- The event the idle step takes next, if one of the present tick is still to be taken (log 1, 2). -/
def dueEvent (s : State) : Option Instr := (dueEvents s).head?

/-- A free value has been drawn (log 4). -/
def drawFree (s : State) : State := s.withFreeCount (s.freeCount + 1)

/-- What the idle step does with nothing due: a tick passes (log 1); during a frame the outside may give an edge of LCLK
instead, a free value (R145, log 8). -/
def passIdle (s : State) : State :=
  match s.link.frame with
  | none => tick s
  | some fr =>
    match Config.linkEdge s.freeCount with
    | some e => takeLinkEdge e fr (drawFree s)
    | none => tick (drawFree s)

end Sys2Proof.Machine
end

