-- ==== Sys2Proof/Machine/Controls.lean ====
section
/-! DEFINITION. CONTROL frames but RESET (R91, R92, R94, R98, R101, R102, R132, R141, R142, R154). -/

namespace Sys2Proof.Machine

/-! ### START -/

/-- The counters a drum START sets to 0 (R91). -/
def startDrumCounters (s : State) : State :=
  let t := s.withPlanner { s.planner with misses := 0 }
  t.withRecon { t.recon with overRun := 0, heldRun := 0 }

/-- An accepted drum START (R91): OFFSET with fresh bookkeeping from a CALIBRATE row, READY from a FIXED row. -/
def acceptStartDrum (s : State) : State :=
  let t := startDrumCounters s
  if (inputRow .drumShunt t).source = .calibrate then
    changeDrum .offset (t.withDrum { t.drum with calib := .zero })
  else changeDrum .ready t

/-- A drum START, by the first condition that holds (R91). -/
def startDrumBody : Body := fun s =>
  if s.drum.state ≠ .off then (s, .badState)
  else if assigned .drumShunt s = false then (s, .notAssigned)
  else if s.input.permit = false ∧ s.drum.dry = false then (s, .noPermit)
  else if s.input.faultD then (s, .badState)
  else (acceptStartDrum s, .ok)

/-- START_DRUM (R91). -/
def execStartDrum (s : State) : Answer State := .next (decideFrame (whenReady startDrumBody) s)

/-- The rows a pump START needs name inputs (R132). -/
def pumpAssigned (s : State) : Bool :=
  assigned .pumpShunt s && assigned .bus s && assigned .pumpVa s && assigned .pumpVb s && assigned .pumpVc s

/-- What a pump START sets to 0 and empties (R132). -/
def startPumpCounters (s : State) : State :=
  let t := s.withComm { s.comm with zcMisses := 0, ring := [] }
  t.withPump { t.pump with overRun := 0, stable := 0 }

/-- An accepted pump START (R132): OFFSET from a CALIBRATE row, ALIGN from a FIXED row (R134). -/
def acceptStartPump (s : State) : State :=
  let t := startPumpCounters s
  if (inputRow .pumpShunt t).source = .calibrate then enterPumpOffset t else enterAlign t

/-- A pump START, by the first condition that holds (R132). -/
def startPumpBody : Body := fun s =>
  if s.pump.state ≠ .off then (s, .badState)
  else if pumpAssigned s = false then (s, .notAssigned)
  else if sequencePasses s.comm.table = false then (s, .tableInvalid)
  else if s.input.permit = false ∧ s.pump.dry = false then (s, .noPermit)
  else if s.input.faultP then (s, .badState)
  else (acceptStartPump s, .ok)

/-- START_PUMP (R132). -/
def execStartPump (s : State) : Answer State := .next (decideFrame (whenReady startPumpBody) s)

/-! ### Stops -/

/-- A stop becomes pending, replacing one that waits (R94). -/
def setStopPending (k : StopKind) (s : State) : State := s.withDrum { s.drum with stopPending := some k }

/-- STOP_COAST at the drum (R92, R94). -/
def stopCoastDrumBody : Body := fun s =>
  match s.drum.state with
  | .off => (s, .ok)
  | .offset => (changeDrum .off s, .ok)
  | .ready => (changeDrum .off s, .ok)
  | .run => (setStopPending .coast s, .ok)
  | .brake => (changeDrum .off s, .ok)
  | .safe => (s, .badState)

/-- STOP_COAST_DRUM (R92, R94). -/
def execStopCoastDrum (s : State) : Answer State := .next (decideFrame (whenReady stopCoastDrumBody) s)

/-- STOP_BRAKE at the drum (R92, R94). -/
def stopBrakeDrumBody : Body := fun s =>
  match s.drum.state with
  | .off => (s, .ok)
  | .offset => (changeDrum .off s, .ok)
  | .ready => (changeDrum .off s, .ok)
  | .run => (setStopPending .brake s, .ok)
  | .brake => (s, .ok)
  | .safe => (s, .badState)

/-- STOP_BRAKE_DRUM (R92, R94). -/
def execStopBrakeDrum (s : State) : Answer State := .next (decideFrame (whenReady stopBrakeDrumBody) s)

/-- STOP_COAST at the pump (R142). -/
def stopCoastPumpBody : Body := fun s =>
  match s.pump.state with
  | .off => (s, .ok)
  | .offset => (pumpOff s, .ok)
  | .align => (pumpOff s, .ok)
  | .ramp => (pumpOff s, .ok)
  | .closed => (pumpOff s, .ok)
  | .safe => (s, .badState)

/-- STOP_COAST_PUMP (R142). -/
def execStopCoastPump (s : State) : Answer State := .next (decideFrame (whenReady stopCoastPumpBody) s)

/-- STOP_BRAKE_PUMP (R142): BAD_ARGUMENT in every pump state. -/
def execStopBrakePump (s : State) : Answer State := .next (decideFrame (whenReady (refuse .badArgument)) s)

/-! ### CLEAR -/

/-- A drum CLEAR (R98). -/
def clearDrumBody : Body := fun s =>
  if s.drum.state ≠ .safe then (s, .badState)
  else if s.input.faultD then (s, .badState)
  else if s.input.permit = false ∧ s.drum.dry = false then (s, .badState)
  else (changeDrum .off (s.withDrum { s.drum with cause := none }), .ok)

/-- CLEAR_DRUM (R98). -/
def execClearDrum (s : State) : Answer State := .next (decideFrame (whenReady clearDrumBody) s)

/-- A pump CLEAR (R141). -/
def clearPumpBody : Body := fun s =>
  if s.pump.state ≠ .safe then (s, .badState)
  else if s.input.faultP then (s, .badState)
  else if s.input.permit = false ∧ s.pump.dry = false then (s, .badState)
  else (pumpOff (s.withPump { s.pump with cause := none }), .ok)

/-- CLEAR_PUMP (R141). -/
def execClearPump (s : State) : Answer State := .next (decideFrame (whenReady clearPumpBody) s)

/-! ### Flags -/

/-- The motor's dry-run flag is written, and its forcing begins or ends (R13, R14, R101, R142). -/
def setDry (m : Motor) (b : Bool) (s : State) : State :=
  applyForcing m (forcing m s)
    (match m with
     | .drum => s.withDrum { s.drum with dry := b }
     | .pump => s.withPump { s.pump with dry := b })

/-- DRY_ON or DRY_OFF: taken in OFF, BAD_STATE otherwise (R101, R142). -/
def dryBody (m : Motor) (b : Bool) : Body := fun s => if motorOff m s then (setDry m b s, .ok) else (s, .badState)

/-- DRY_ON (R101, R142). -/
def execDryOn (motor : Motor) (s : State) : Answer State := .next (decideFrame (whenReady (dryBody motor true)) s)

/-- DRY_OFF (R101, R142). -/
def execDryOff (motor : Motor) (s : State) : Answer State := .next (decideFrame (whenReady (dryBody motor false)) s)

/-- The motor's report flag is written (R102, R142). -/
def setReport (m : Motor) (b : Bool) (s : State) : State :=
  match m with
  | .drum => s.withDrum { s.drum with report := b }
  | .pump => s.withPump { s.pump with report := b }

/-- REPORT_ON (R102, R142). -/
def execReportOn (motor : Motor) (s : State) : Answer State :=
  .next (decideFrame (whenReady fun t => (setReport motor true t, .ok)) s)

/-- REPORT_OFF (R102, R142). -/
def execReportOff (motor : Motor) (s : State) : Answer State :=
  .next (decideFrame (whenReady fun t => (setReport motor false t, .ok)) s)

/-- CLEAR_FLAGS (R154). -/
def execClearFlags (s : State) : Answer State :=
  .next (decideFrame (whenReady fun t => (t.withFlags .clear, .ok)) s)

end Sys2Proof.Machine
end

