-- ==== Sys2Proof/Machine/Frames.lean ====
section
/-! DEFINITION. The rows of the link itself: FRAME_BEGIN, damaged and break frames, frames that name nothing, FILL
(R145 to R151, R164). -/

namespace Sys2Proof.Machine

/-- FRAME_BEGIN (R145): a falling edge of LSEL. With LSEL low already there is no edge; while RESET_N is low the part
ignores it (R156). -/
def execFrameBegin (s : State) : Answer State :=
  .next
    (if s.link.selected then s
     else if s.link.resetN then beginFrame s
     else s.withLink { s.link with selected := true })

/-- SHORT_FRAME (R146). -/
def execShortFrame (bits : Nat) (s : State) : Answer State := .next (shortFrame bits s)

/-- BREAK_FRAME (R149, R150). -/
def execBreakFrame (first : Motor) (s : State) : Answer State := .next (breakFrame first s)

/-- CHECK_ERROR (R147, R148). -/
def execCheckError (s : State) : Answer State := .next (decideFrame checkErrorBody s)

/-- UNKNOWN_KIND (R151), in both link states. -/
def execUnknownKind (_kind : BitVec 4) (s : State) : Answer State := .next (decideFrame (refuse .unknownKind) s)

/-- FILL (R151): answered OK, with no other effect. -/
def execFill (s : State) : Answer State := .next (decideFrame (fun t => (t, .ok)) s)

/-- CONTROL_UNKNOWN_CODE (R151). -/
def execControlUnknownCode (_code : BitVec 8) (s : State) : Answer State :=
  .next (decideFrame (whenReady (refuse .badArgument)) s)

/-- TABLE_UNKNOWN_ID (R151). -/
def execTableUnknownId (_id : BitVec 4) (s : State) : Answer State :=
  .next (decideFrame (whenReady (refuse .badArgument)) s)

/-- QUERY_UNKNOWN_PAGE (R164): in both link states. -/
def execQueryUnknownPage (_page : BitVec 4) (s : State) : Answer State := .next (decideFrame (refuse .badArgument) s)

end Sys2Proof.Machine
end

