-- ==== Sys2Proof/Machine/Queries.lean ====
section
/-! DEFINITION. QUERY frames, taken in both link states (R164 to R166). -/

namespace Sys2Proof.Machine

/-- QUERY_LINK (R165): the clear flag clears the check-error, length-error and lost-record counters. -/
def execQueryLink (clear : Bool) (s : State) : Answer State :=
  .next (decideFrame (fun t => answerQuery (.link (linkPage t)) (takeIf clear clearLinkCounters) t) s)

/-- The clear flag of a DRUM query (R59, R165). -/
def clearLostDrum (s : State) : State := s.withSched { s.sched with lostDrum := 0 }

/-- QUERY_DRUM (R165): the clear flag clears the drum lost-conversion counter. -/
def execQueryDrum (clear : Bool) (s : State) : Answer State :=
  .next (decideFrame (fun t => answerQuery (.drum (drumPage t)) (takeIf clear clearLostDrum) t) s)

/-- The drum snapshot slot is emptied (R166). -/
def emptyDrumSnapshot (s : State) : State := s.withDrum { s.drum with snapshot := none }

/-- QUERY_DRUM_SNAP (R166): the slot is emptied whatever the clear flag says (R164). -/
def execQueryDrumSnap (_clear : Bool) (s : State) : Answer State :=
  .next (decideFrame (fun t => answerQuery (.drumSnap t.drum.snapshot) emptyDrumSnapshot t) s)

/-- The clear flag of a PUMP query (R59, R165). -/
def clearLostPump (s : State) : State := s.withSched { s.sched with lostPump := 0 }

/-- QUERY_PUMP (R165): the clear flag clears the pump lost-conversion counter. -/
def execQueryPump (clear : Bool) (s : State) : Answer State :=
  .next (decideFrame (fun t => answerQuery (.pump (pumpPage t)) (takeIf clear clearLostPump) t) s)

/-- QUERY_PUMP_RING_A (R165): ring entries 0 to 2. -/
def execQueryPumpRingA (_clear : Bool) (s : State) : Answer State :=
  .next (decideFrame (fun t => answerQuery (.ringA t.comm.ring[0]? t.comm.ring[1]? t.comm.ring[2]?) id t) s)

/-- QUERY_PUMP_RING_B (R165): ring entries 3 to 5. -/
def execQueryPumpRingB (_clear : Bool) (s : State) : Answer State :=
  .next (decideFrame (fun t => answerQuery (.ringB t.comm.ring[3]? t.comm.ring[4]? t.comm.ring[5]?) id t) s)

/-- The pump snapshot slot is emptied (R166). -/
def emptyPumpSnapshot (s : State) : State := s.withPump { s.pump with snapshot := none }

/-- QUERY_PUMP_SNAP (R166): the slot is emptied whatever the clear flag says (R164). -/
def execQueryPumpSnap (_clear : Bool) (s : State) : Answer State :=
  .next (decideFrame (fun t => answerQuery (.pumpSnap t.pump.snapshot) emptyPumpSnapshot t) s)

/-- The answer to a TABLE query (R164). -/
def queryTableBody (id row : BitVec 4) : Body := fun s =>
  match tableContent id row s with
  | some c => answerQuery (.table id row c) (fun t => t) s
  | none => (s, .badArgument)

/-- QUERY_TABLE (R164): an unknown table id or a row outside the table is refused; the clear flag clears nothing. -/
def execQueryTable (_clear : Bool) (id row : BitVec 4) (s : State) : Answer State :=
  .next (decideFrame (queryTableBody id row) s)

end Sys2Proof.Machine
end

