-- ==== Sys2Proof/Machine/Resets.lean ====
section
/-! DEFINITION. The reset rows: POWER_RESET, PIN_RESET, PIN_RESET_RELEASE and the control code RESET (R156, R157). -/

namespace Sys2Proof.Machine

/-- POWER_RESET (R157): every block is reset with cause POWER, and the RESET notice joins at the end of power-on. With
RESET_N low the notice waits for its release (log 10). -/
def execPowerReset (s : State) : Answer State :=
  let t := resetPart .power s
  .next (if t.link.resetN then joinResetNotice t else t)

/-- PIN_RESET (R156): RESET_N goes low; every block is reset with cause PIN and the queue is held empty (R157). -/
def execPinReset (s : State) : Answer State :=
  let t := resetPart .pin s
  .next (t.withLink { t.link with resetN := false })

/-- PIN_RESET_RELEASE (R157): RESET_N returns high and the RESET notice joins. With RESET_N high there is no edge. -/
def execPinResetRelease (s : State) : Answer State :=
  .next (if s.link.resetN then s else joinResetNotice (s.withLink { s.link with resetN := true }))

/-- The RESET control code in READY: a reset of cause COMMAND, after which the result is NONE (R156). -/
def resetBody : Body := fun s => (joinResetNotice (resetPart .command s), .none)

/-- RESET (R156). -/
def execReset (s : State) : Answer State := .next (decideFrame (whenReady resetBody) s)

end Sys2Proof.Machine
end

