-- ==== Sys2Proof/Machine/Setup.lean ====
section
/-! DEFINITION. SETUP, DUTY, PUMP and RATE frames (R6, R7, R20, R21, R137, R152). -/

namespace Sys2Proof.Machine

/-- SETUP (R152). -/
def execSetup (fields : SetupFields) (permit : Bool) (s : State) : Answer State :=
  .next (decideFrame (setupBody fields permit) s)

/-- The fractions of an accepted DUTY frame enter the slot; a full slot is replaced, and DUTY_OVERWRITE set (R21). -/
def fillSlot (d : PerPhase Word) (s : State) : State :=
  let t := if s.planner.slot.isSome then setDutyOverwrite s else s
  t.withPlanner { t.planner with slot := some d }

/-- A DUTY frame in READY, by the drum state (R20). -/
def dutyBody (d : PerPhase Word) : Body := fun s =>
  match s.drum.state with
  | .ready => (fillSlot d s, .ok)
  | .run => (fillSlot d s, .ok)
  | .off => (s, .badState)
  | .offset => (s, .badState)
  | .brake => (s, .badState)
  | .safe => (s, .badState)

/-- DUTY (R20). -/
def execDuty (fractions : PerPhase Word) (s : State) : Answer State :=
  .next (decideFrame (whenReady (dutyBody fractions)) s)

/-- The duty becomes the pending duty (R137). -/
def setPendingDuty (duty : Word) (s : State) : State := s.withPump { s.pump with pendingDuty := some duty }

/-- A PUMP frame in READY that names a direction, by the pump state (R137). -/
def pumpDutyBody (d : Direction) (duty : Word) : Body := fun s =>
  match s.pump.state with
  | .off => (setPendingDuty duty (s.withComm { s.comm with direction := d }), .ok)
  | .safe => (s, .badState)
  | .offset => if d = s.comm.direction then (setPendingDuty duty s, .ok) else (s, .badState)
  | .align => if d = s.comm.direction then (setPendingDuty duty s, .ok) else (s, .badState)
  | .ramp => if d = s.comm.direction then (setPendingDuty duty s, .ok) else (s, .badState)
  | .closed => if d = s.comm.direction then (setPendingDuty duty s, .ok) else (s, .badState)

/-- A PUMP frame in READY: BAD_ARGUMENT where its direction field names neither direction (R137). -/
def pumpBody (direction : BitVec 2) (duty : Word) : Body := fun s =>
  match directionOf direction with
  | some d => pumpDutyBody d duty s
  | none => (s, .badArgument)

/-- PUMP (R137). -/
def execPump (direction : BitVec 2) (duty : Word) (s : State) : Answer State :=
  .next (decideFrame (whenReady (pumpBody direction duty)) s)

/-- A RATE frame in READY: the pending half-periods (R7). -/
def rateBody (h hp : Word) : Body := fun s =>
  let t := s.withDrumCar { s.drumCar with pendingHalf := rateHalf h s.drumCar.pendingHalf }
  let u := t.withPumpCar { t.pumpCar with pendingHalf := rateHalf hp t.pumpCar.pendingHalf }
  (u, takenResult (rateClamped h || rateClamped hp))

/-- RATE (R7). -/
def execRate (h hp : Word) (s : State) : Answer State := .next (decideFrame (whenReady (rateBody h hp)) s)

end Sys2Proof.Machine
end

