-- ==== Sys2Proof/Machine/Tables.lean ====
section
/-! DEFINITION. TABLE frames (R61, R62, R107, R130). -/

namespace Sys2Proof.Machine

/-- A row of the input assignment table is replaced whole; NONE removes the measurand's queued requests (R61, R62). -/
def writeInputRow (m : Measurand) (row : InputRow) (s : State) : State :=
  let t := s.withSched { s.sched with table := s.sched.table.set m.index row }
  if row.input.isSome then t else unassign m t

/-- A TABLE INPUT frame in READY (R61). -/
def tableInputBody (row : BitVec 4) (source : BitVec 2) (input : BitVec 4) (offset trip : Word) : Body := fun s =>
  if bothOff s then
    match measurandOf row, inputRowOf source input offset trip with
    | some m, some r => (writeInputRow m r s, takenResult (inputClamped offset trip))
    | _, _ => (s, .badArgument)
  else (s, .busy)

/-- TABLE_INPUT (R61). -/
def execTableInput (row : BitVec 4) (source : BitVec 2) (input : BitVec 4) (offset trip : Word) (s : State) :
    Answer State :=
  .next (decideFrame (whenReady (tableInputBody row source input offset trip)) s)

/-- A TABLE COMMUTATION frame in READY (R107). -/
def tableCommutationBody (row : BitVec 4) (high low floating polarity : BitVec 2) : Body := fun s =>
  if motorOff .pump s then
    match rowOf 6 row, commutationRowOf high low floating polarity with
    | some i, some r =>
      if r.valid then (s.withComm { s.comm with table := s.comm.table.set i r }, .ok) else (s, .tableInvalid)
    | _, _ => (s, .badArgument)
  else (s, .busy)

/-- TABLE_COMMUTATION (R107). -/
def execTableCommutation (row : BitVec 4) (high low floating polarity : BitVec 2) (s : State) : Answer State :=
  .next (decideFrame (whenReady (tableCommutationBody row high low floating polarity)) s)

/-- A TABLE PROFILE frame in READY (R130). -/
def tableProfileBody (f : ProfileFields) : Body := fun s =>
  if motorOff .pump s then
    match startIndexOf f.startIndex with
    | some i => (s.withPump { s.pump with profile := clampProfile f i }, takenResult (profileClamped f))
    | none => (s, .badArgument)
  else (s, .busy)

/-- TABLE_PROFILE (R130). -/
def execTableProfile (fields : ProfileFields) (s : State) : Answer State :=
  .next (decideFrame (whenReady (tableProfileBody fields)) s)

/-- A TABLE RAMP frame in READY (R130). -/
def tableRampBody (row : BitVec 4) (interval : BitVec 24) (repeats : BitVec 8) (duty : Word) : Body := fun s =>
  if motorOff .pump s then
    match rowOf 16 row with
    | some i =>
      (s.withPump { s.pump with ramp := s.pump.ramp.set i (clampRamp interval repeats duty) },
        takenResult (rampClamped interval repeats))
    | none => (s, .badArgument)
  else (s, .busy)

/-- TABLE_RAMP (R130). -/
def execTableRamp (row : BitVec 4) (interval : BitVec 24) (repeats : BitVec 8) (duty : Word) (s : State) :
    Answer State :=
  .next (decideFrame (whenReady (tableRampBody row interval repeats duty)) s)

/-- A TABLE RAMP_LENGTH frame in READY (R130). -/
def tableRampLengthBody (length : BitVec 5) : Body := fun s =>
  if motorOff .pump s then
    (s.withPump { s.pump with rampLength := clampTo 1 16 length.toNat }, takenResult (outside 1 16 length.toNat))
  else (s, .busy)

/-- TABLE_RAMP_LENGTH (R130). -/
def execTableRampLength (length : BitVec 5) (s : State) : Answer State :=
  .next (decideFrame (whenReady (tableRampLengthBody length)) s)

end Sys2Proof.Machine
end

