-- ==== Sys2Proof/Machine/Dispatch.lean ====
section
/-! DEFINITION. One arm for each command: its meaning. -/

namespace Sys2Proof.Machine

def exec (i : Instr) (s : State) : Host.Outcome State Fault Refusal :=
  match i with
  | .powerReset => Sys2Proof.Machine.execPowerReset s
  | .pinReset => Sys2Proof.Machine.execPinReset s
  | .pinResetRelease => Sys2Proof.Machine.execPinResetRelease s
  | .frameBegin => Sys2Proof.Machine.execFrameBegin s
  | .shortFrame bits => Sys2Proof.Machine.execShortFrame bits s
  | .breakFrame first => Sys2Proof.Machine.execBreakFrame first s
  | .checkError => Sys2Proof.Machine.execCheckError s
  | .unknownKind kind => Sys2Proof.Machine.execUnknownKind kind s
  | .fill => Sys2Proof.Machine.execFill s
  | .setup fields permit => Sys2Proof.Machine.execSetup fields permit s
  | .duty fractions => Sys2Proof.Machine.execDuty fractions s
  | .pump direction duty => Sys2Proof.Machine.execPump direction duty s
  | .rate h hp => Sys2Proof.Machine.execRate h hp s
  | .tableInput row source input offset trip => Sys2Proof.Machine.execTableInput row source input offset trip s
  | .tableCommutation row high low floating polarity => Sys2Proof.Machine.execTableCommutation row high low floating polarity s
  | .tableProfile fields => Sys2Proof.Machine.execTableProfile fields s
  | .tableRamp row interval repeats duty => Sys2Proof.Machine.execTableRamp row interval repeats duty s
  | .tableRampLength length => Sys2Proof.Machine.execTableRampLength length s
  | .queryLink clear => Sys2Proof.Machine.execQueryLink clear s
  | .queryDrum clear => Sys2Proof.Machine.execQueryDrum clear s
  | .queryDrumSnap clear => Sys2Proof.Machine.execQueryDrumSnap clear s
  | .queryPump clear => Sys2Proof.Machine.execQueryPump clear s
  | .queryPumpRingA clear => Sys2Proof.Machine.execQueryPumpRingA clear s
  | .queryPumpRingB clear => Sys2Proof.Machine.execQueryPumpRingB clear s
  | .queryPumpSnap clear => Sys2Proof.Machine.execQueryPumpSnap clear s
  | .queryTable clear id row => Sys2Proof.Machine.execQueryTable clear id row s
  | .startDrum => Sys2Proof.Machine.execStartDrum s
  | .startPump => Sys2Proof.Machine.execStartPump s
  | .stopCoastDrum => Sys2Proof.Machine.execStopCoastDrum s
  | .stopBrakeDrum => Sys2Proof.Machine.execStopBrakeDrum s
  | .stopCoastPump => Sys2Proof.Machine.execStopCoastPump s
  | .stopBrakePump => Sys2Proof.Machine.execStopBrakePump s
  | .clearDrum => Sys2Proof.Machine.execClearDrum s
  | .clearPump => Sys2Proof.Machine.execClearPump s
  | .dryOn motor => Sys2Proof.Machine.execDryOn motor s
  | .dryOff motor => Sys2Proof.Machine.execDryOff motor s
  | .reportOn motor => Sys2Proof.Machine.execReportOn motor s
  | .reportOff motor => Sys2Proof.Machine.execReportOff motor s
  | .clearFlags => Sys2Proof.Machine.execClearFlags s
  | .reset => Sys2Proof.Machine.execReset s
  | .faultLineFall motor => Sys2Proof.Machine.execFaultLineFall motor s
  | .faultLineRise motor => Sys2Proof.Machine.execFaultLineRise motor s
  | .enableTimeReached motor phase => Sys2Proof.Machine.execEnableTimeReached motor phase s
  | .drumPeriodStart permit order => Sys2Proof.Machine.execDrumPeriodStart permit order s
  | .planPoint => Sys2Proof.Machine.execPlanPoint s
  | .planEdge phase => Sys2Proof.Machine.execPlanEdge phase s
  | .pumpPeriodStart schedulerFirst => Sys2Proof.Machine.execPumpPeriodStart schedulerFirst s
  | .pumpPeak => Sys2Proof.Machine.execPumpPeak s
  | .pumpSpanEdge => Sys2Proof.Machine.execPumpSpanEdge s
  | .conversionStart => Sys2Proof.Machine.execConversionStart s
  | .conversionDone code first => Sys2Proof.Machine.execConversionDone code first s
  | .requestExpiry => Sys2Proof.Machine.execRequestExpiry s
  | .dueCommutation => Sys2Proof.Machine.execDueCommutation s
  | .zcTimeout => Sys2Proof.Machine.execZcTimeout s
  | .rampCommutation => Sys2Proof.Machine.execRampCommutation s
  | .controlUnknownCode code => Sys2Proof.Machine.execControlUnknownCode code s
  | .tableUnknownId id => Sys2Proof.Machine.execTableUnknownId id s
  | .queryUnknownPage page => Sys2Proof.Machine.execQueryUnknownPage page s

end Sys2Proof.Machine
end

