-- ==== Sys2Proof/Machine/Step.lean ====
section
/-! DEFINITION. One step of the part, and a command put at the front of its queue. -/

namespace Sys2Proof.Machine

/-- The step on an empty queue (log 1): the next event of the present tick that is still to be taken, or else an edge of
LCLK or a tick. -/
def idle (s : State) : Host.Outcome State Fault Refusal :=
  match dueEvent s with
  | some c => exec c (drawFree s)
  | none => .next (passIdle s)

/-- One step: the command at the front of the queue, with the queue's rest; on an empty queue the part idles. -/
def step (s : State) : Host.Outcome State Fault Refusal :=
  match s.pending with
  | c :: rest => exec c (s.withPending rest)
  | [] => idle s

/-- `s` with the command that the word spells put at the front of its queue; `s` where the word spells none (log 28). -/
def State.withFetchWord (s : State) (nbits w : Nat) : State :=
  match decodeTableWord nbits w with
  | some c => s.withPending (c :: s.pending)
  | none => s

end Sys2Proof.Machine
end

