-- ==== Sys2Proof/Safety.lean ====
section
/-! DEFINITION. What a state that the part can be in looks like: the invariants that every step keeps, and the words
in which statements say what the completion of a frame leaves. -/

namespace Sys2Proof.Machine

/-! ### Gate outputs (R10, R11, R13) -/

/-- A phase record under this forcing (R10): a side is on exactly when it is the commanded side, its enable time has
been reached and nothing forces it off; only FLOAT has no enable time. -/
structure PhaseRecord.Follows (f : Forcing) (r : PhaseRecord) : Prop where
  high : r.high = true ↔ r.commanded = .high ∧ r.enable = .reached ∧ f.high = false
  low : r.low = true ↔ r.commanded = .low ∧ r.enable = .reached ∧ f.low = false
  absent : r.enable = .absent ↔ r.commanded = .float

/-- Every phase record of both motors shows what R10 calls for. -/
def GatesFollow (s : State) : Prop := ∀ m x, ((gatesOf m s).get x).Follows (forcing m s)

/-- A phase is commanded HIGH only in RUN (drum) or in ALIGN, RAMP and CLOSED (pump) (R13, R90, R131). -/
def HighCommandsDrive (s : State) : Prop :=
  (∀ x, (s.drumGates.get x).commanded = .high → s.drum.state = .run) ∧
  (∀ x, (s.pumpGates.get x).commanded = .high → s.pump.state.running = true)

/-! ### Stores (R6, R28, R83, R107, R129, R130, R148, R3, R4) -/

/-- A value in lo..hi. -/
def Within (lo hi n : Nat) : Prop := lo ≤ n ∧ n ≤ hi

/-- The SETUP store within its ranges (R6, R28, R83, R148). -/
structure SetupStore.InRange (p : SetupStore) : Prop where
  h : Within 1000 8000 p.h
  hp : Within 1000 8000 p.hp
  dt : Within 16 255 p.dt
  tsettle : Within 8 500 p.tsettle
  lp : Within 64 1000 p.lp
  kmiss : Within 1 15 p.kmiss
  divider : Within 1 16 p.divider
  threshold : Within 1 255 p.threshold

/-- The start profile within its ranges (R129). -/
structure StartProfile.InRange (p : StartProfile) : Prop where
  alignPeriods : Within 1 65535 p.alignPeriods
  alpha8 : p.alpha8 ≤ 232
  blanking : Within 1 15 p.blanking
  nstable : Within 6 15 p.nstable
  kzc : Within 1 15 p.kzc

/-- The stores and tables hold only values that their frames can leave there (R6, R107, R129, R130). -/
structure StoresInRange (s : State) : Prop where
  setup : s.setup.InRange
  profile : s.pump.profile.InRange
  ramp : ∀ i : Fin 16, Within 100 16777215 s.pump.ramp[i].interval ∧ Within 1 255 s.pump.ramp[i].repeats
  rampLength : Within 1 16 s.pump.rampLength
  commutation : ∀ i : Fin 6, s.comm.table[i].valid = true

/-- The carriers keep within their periods, with half-periods in range (R3, R4, R5, R7). -/
structure CarriersInRange (s : State) : Prop where
  setup : Within 1000 8000 s.setup.h ∧ Within 1000 8000 s.setup.hp
  half : Within 1000 8000 s.drumCar.half
  pendingHalf : Within 1000 8000 s.drumCar.pendingHalf
  latchedHalf : Within 1000 8000 s.drumCar.latchedHalf
  pos : s.drumCar.pos ≤ 2 * s.drumCar.half
  pumpHalf : Within 1000 8000 s.pumpCar.half
  pumpPendingHalf : Within 1000 8000 s.pumpCar.pendingHalf
  pumpPos : s.pumpCar.pos ≤ 2 * s.pumpCar.half

/-- The step-tick count advances once in 16 ticks (R1): modulo 2^28 it is the tick count divided by 16. -/
def StepTickFollows (s : State) : Prop := s.time.stepTick.toNat % 2 ^ 28 = s.time.tick.toNat / 16

/-! ### The converter (R46, R49, R51) -/

/-- The conversion request queue: at most eight requests, no two with one key, each with an input, as has a conversion
in progress (R46, R51). -/
structure ConverterQueueKept (s : State) : Prop where
  capacity : s.sched.queue.length ≤ 8
  keys : s.sched.queue.Pairwise fun a b => a.sameKey b = false
  assigned : ∀ r ∈ s.sched.queue, assigned r.measurand s = true
  converting : ∀ c, s.sched.converter = some c → c.input.isSome = true

/-- `a` stands before `b` in the order of R49, joining order apart: by L, then DRUM before PUMP before HOUSE, then the
smaller window number. -/
def Request.Before (a b : Request) : Prop :=
  passed a.latest b.latest = true ∨
  (a.latest = b.latest ∧
    ((a.owner = .drum ∧ b.owner ≠ .drum) ∨ (a.owner = .pump ∧ b.owner = .house) ∨
      (a.owner = b.owner ∧ a.window < b.window)))

/-- The conversion request queue stands in the order of R49. Times wrap, so what makes it an order is said with it: each L
lies at most one tick back, when its request is about to expire (R54), and at most 16000 ticks ahead, the longest period;
and so do those of the requests that a prepared plan holds, 8000 ticks from its period start (R38). -/
structure QueueOrdered (s : State) : Prop where
  sorted : s.sched.queue.Pairwise fun a b => ¬b.Before a
  near : ∀ r ∈ s.sched.queue, (r.latest + 1 - s.time.tick).toNat ≤ 16001
  planned : ∀ p q, s.planner.prepared = some p → p.request1 = some q ∨ p.request2 = some q → q.latest ≤ 8000

/-! ### The records (R157, R158) -/

/-- The Record Queue holds at most 32 records; only a record it holds is in transit (R157, R158). -/
structure RecordsKept (s : State) : Prop where
  capacity : s.rq.records.length ≤ 32
  lost : s.rq.lost ≤ 65535
  transit : s.rq.inTransit = true → s.rq.records ≠ []

/-! ### The reconstructor (R70, R66, R59) -/

/-- A current within −4096..+4095 (R74). -/
def CurrentInRange (i : Int) : Prop := -4096 ≤ i ∧ i ≤ 4095

/-- The parts of R70, R66 and R59 within their ranges. -/
structure ReconstructorInRange (s : State) : Prop where
  currents : CurrentInRange s.recon.lastFresh.a ∧ CurrentInRange s.recon.lastFresh.b ∧
    CurrentInRange s.recon.lastFresh.c
  overRun : s.recon.overRun ≤ 3
  heldRun : s.recon.heldRun ≤ 16
  busHighRun : s.recon.busHighRun ≤ 3
  overTempRun : s.recon.overTempRun ≤ 3
  busReading : s.sched.busReading ≤ 4095
  lostDrum : s.sched.lostDrum ≤ 65535
  lostPump : s.sched.lostPump ≤ 65535

/-! ### The drum (R23, R71, R89, R94) -/

/-- What the drum state says of the drum's other parts (R23, R71, R89, R94, R95, R96). -/
structure DrumKept (s : State) : Prop where
  cause : s.drum.cause.isSome = true ↔ s.drum.state = .safe
  stop : s.drum.stopPending.isSome = true → s.drum.state = .run
  slot : s.planner.slot.isSome = true → s.drum.state = .ready ∨ s.drum.state = .run
  prepared : s.planner.prepared.isSome = true → s.drum.state = .ready ∨ s.drum.state = .run
  inForce : s.planner.inForce.isSome = true → s.drum.state = .run
  entry : s.recon.periodEntry.isSome = true → s.drum.state = .run ∨ drumStartDue s = true

/-! ### The pump (R118, R120, R121, R128, R135, R136) -/

/-- What the pump state says of the pump's other parts (R113, R115, R118, R120, R121, R126, R128, R135 to R140). -/
structure PumpKept (s : State) : Prop where
  cause : s.pump.cause.isSome = true ↔ s.pump.state = .safe
  due : s.comm.due.isSome = true → s.pump.state = .closed
  deadline : s.comm.deadline.isSome = true → s.pump.state = .closed
  rampTime : s.pump.rampTime.isSome = true ↔ s.pump.state = .ramp
  position : s.pump.rampPosition.isSome = true ↔ s.pump.state = .ramp
  row : ∀ p, s.pump.rampPosition = some p →
    p.row.val < s.pump.rampLength ∧ p.repeats < (s.pump.ramp[p.row]).repeats
  pendingDuty : s.pump.state = .safe → s.pump.pendingDuty = none
  ring : s.comm.ring.length ≤ 6
  intervals : ∀ i ∈ s.comm.ring, i ≤ 16777215
  stableRing : s.pump.state = .offset ∨ s.pump.state = .align ∨ s.pump.state = .ramp →
    min s.pump.stable 6 ≤ s.comm.ring.length
  closedRing : s.pump.state = .closed → s.comm.ring.length = 6
  marks : s.comm.marks.length ≤ 2
  zcRun : s.comm.zcRun ≤ 3
  overRun : s.pump.overRun ≤ 3
  count : s.pump.currentCount ≤ 65535

/-- The miss counters keep their limits (R26, R122). Both laws speak of the motor in use: in OFF a counter keeps the
value its last run left, and a SETUP or PROFILE frame taken there may set a lower limit (log 24). -/
structure MissesKept (s : State) : Prop where
  await : s.link.state = .awaitSetup → s.drum.state = .off ∧ s.pump.state = .off
  drumRunning : s.drum.state = .offset ∨ s.drum.state = .ready ∨ s.drum.state = .run →
    s.planner.misses < s.setup.kmiss
  drum : s.drum.state ≠ .off → s.planner.misses ≤ s.setup.kmiss
  pumpRunning : s.pump.state = .offset ∨ s.pump.state.running = true → s.comm.zcMisses < s.pump.profile.kzc
  pump : s.pump.state ≠ .off → s.comm.zcMisses ≤ s.pump.profile.kzc

/-! ### Frames at the link (R145, R146, R149, R153, R156, R159, R160) -/

/-- The command is the completion of a frame (R146, R151). -/
def completesFrame : Instr → Bool
  | .shortFrame _ => true
  | .breakFrame _ => true
  | .checkError => true
  | .unknownKind _ => true
  | .fill => true
  | .setup _ _ => true
  | .duty _ => true
  | .pump _ _ => true
  | .rate _ _ => true
  | .tableInput _ _ _ _ _ => true
  | .tableCommutation _ _ _ _ _ => true
  | .tableProfile _ => true
  | .tableRamp _ _ _ _ => true
  | .tableRampLength _ => true
  | .queryLink _ => true
  | .queryDrum _ => true
  | .queryDrumSnap _ => true
  | .queryPump _ => true
  | .queryPumpRingA _ => true
  | .queryPumpRingB _ => true
  | .queryPumpSnap _ => true
  | .queryTable _ _ _ => true
  | .startDrum => true
  | .startPump => true
  | .stopCoastDrum => true
  | .stopBrakeDrum => true
  | .stopCoastPump => true
  | .stopBrakePump => true
  | .clearDrum => true
  | .clearPump => true
  | .dryOn _ => true
  | .dryOff _ => true
  | .reportOn _ => true
  | .reportOff _ => true
  | .clearFlags => true
  | .reset => true
  | .controlUnknownCode _ => true
  | .tableUnknownId _ => true
  | .queryUnknownPage _ => true
  | .powerReset => false
  | .pinReset => false
  | .pinResetRelease => false
  | .frameBegin => false
  | .faultLineFall _ => false
  | .faultLineRise _ => false
  | .enableTimeReached _ _ => false
  | .drumPeriodStart _ _ => false
  | .planPoint => false
  | .planEdge _ => false
  | .pumpPeriodStart _ => false
  | .pumpPeak => false
  | .pumpSpanEdge => false
  | .conversionStart => false
  | .conversionDone _ _ => false
  | .requestExpiry => false
  | .dueCommutation => false
  | .zcTimeout => false
  | .rampCommutation => false

/-- The part is receiving the frame `fr`: RESET_N is high and LSEL fell with the part listening (R145, R156). -/
def Receiving (s : State) (fr : FrameInProgress) : Prop := s.link.resetN = true ∧ s.link.frame = some fr

/-- The Link Port after a full-length frame, not a break frame, with result `r` (R146, R149, R153): LSEL is high, 128
bits were sampled, the break-frame run is 0, and a refusal has set REFUSED. -/
def linkAfter (r : Result) (s : State) : LinkPort :=
  { s.link with
    bitCount := 128
    shift := 0
    frame := none
    ldo := false
    selected := false
    breakRun := 0
    result := r
    flags := { s.link.flags with refused := s.link.flags.refused || r.refused } }

/-- The Record Queue after the upstream frame `fr` was sent whole (R159, R160): the record in transit has left, and the
gap mark is cleared if the header carried it and nothing was displaced meanwhile. -/
def queueAfter (fr : FrameInProgress) (s : State) : RecordQueue :=
  { s.rq with
    records := if s.rq.inTransit then s.rq.records.tail else s.rq.records
    gap := s.rq.gap && !(fr.headerGap && !fr.displaced)
    inTransit := false }

/-- The state a full-length frame with result `r` leaves when nothing else happens: the Link Port and the Record Queue
alone have changed. -/
def answered (fr : FrameInProgress) (r : Result) (s : State) : State :=
  { s with link := linkAfter r s, rq := queueAfter fr s }

/-- The frames that the link answers NOT_SET_UP in AWAIT_SETUP (R151). -/
def needsReady : Instr → Bool
  | .duty _ => true
  | .pump _ _ => true
  | .rate _ _ => true
  | .tableInput _ _ _ _ _ => true
  | .tableCommutation _ _ _ _ _ => true
  | .tableProfile _ => true
  | .tableRamp _ _ _ _ => true
  | .tableRampLength _ => true
  | .startDrum => true
  | .startPump => true
  | .stopCoastDrum => true
  | .stopBrakeDrum => true
  | .stopCoastPump => true
  | .stopBrakePump => true
  | .clearDrum => true
  | .clearPump => true
  | .dryOn _ => true
  | .dryOff _ => true
  | .reportOn _ => true
  | .reportOff _ => true
  | .clearFlags => true
  | .reset => true
  | .controlUnknownCode _ => true
  | .tableUnknownId _ => true
  | .powerReset => false
  | .pinReset => false
  | .pinResetRelease => false
  | .frameBegin => false
  | .shortFrame _ => false
  | .breakFrame _ => false
  | .checkError => false
  | .unknownKind _ => false
  | .fill => false
  | .setup _ _ => false
  | .queryLink _ => false
  | .queryDrum _ => false
  | .queryDrumSnap _ => false
  | .queryPump _ => false
  | .queryPumpRingA _ => false
  | .queryPumpRingB _ => false
  | .queryPumpSnap _ => false
  | .queryTable _ _ _ => false
  | .faultLineFall _ => false
  | .faultLineRise _ => false
  | .enableTimeReached _ _ => false
  | .drumPeriodStart _ _ => false
  | .planPoint => false
  | .planEdge _ => false
  | .pumpPeriodStart _ => false
  | .pumpPeak => false
  | .pumpSpanEdge => false
  | .conversionStart => false
  | .conversionDone _ _ => false
  | .requestExpiry => false
  | .dueCommutation => false
  | .zcTimeout => false
  | .rampCommutation => false
  | .queryUnknownPage _ => false

/-! ### Events -/

/-- The state a plan point leaves at the Drum Carrier (R8): the pending H is latched for the next period. -/
def latchedAtPoint (s : State) : State :=
  { s with drumCar := { s.drumCar with latchedHalf := s.drumCar.pendingHalf, planTaken := true } }

/-- The Drum Carrier at the start of its next period (R3, R8). -/
def nextDrumPeriod (s : State) : DrumCarrier :=
  ⟨0, s.drumCar.latchedHalf, s.drumCar.pendingHalf, s.drumCar.latchedHalf, s.drumCar.period + 1, false⟩

/-- The Pump Carrier at the start of its next period (R4, R9). -/
def nextPumpPeriod (s : State) : PumpCarrier :=
  ⟨0, s.pumpCar.pendingHalf, s.pumpCar.pendingHalf, s.pumpCar.period + 1, false⟩

/-- The state that the LOST outcome of a request leaves (R57, R59, R72, R114, R115): its owner's counter, DRUM or PUMP,
has counted it; unless it was SUPERSEDED, the slot of its period that awaited it holds LOST with the reason, and the
outcome of an examined floating-phase request has broken the ZC run. -/
def afterLost (reason : LostReason) (r : Request) (s : State) : State :=
  let window := fun (n : Nat) (w : WindowSlot) =>
    if r.owner = .drum ∧ r.window = n ∧ w = .awaited then .lost reason else w
  let house := fun (n : Nat) (w : HouseSlot) =>
    if r.owner = .house ∧ r.window = n ∧ w = .awaited then .lost reason else w
  let examined := (s.pump.state = .ramp ∨ s.pump.state = .closed) ∧ s.comm.stepZc = none ∧
    (⟨r.period, true⟩ : DetectionMark) ∈ s.comm.marks
  { s with
    sched :=
      { s.sched with
        lostDrum := if r.owner = .drum then min (s.sched.lostDrum + 1) 65535 else s.sched.lostDrum
        lostPump := if r.owner = .pump then min (s.sched.lostPump + 1) 65535 else s.sched.lostPump }
    recon :=
      { s.recon with
        periodEntry := s.recon.periodEntry.map fun e =>
          if reason ≠ .superseded ∧ r.period = e.period then
            { e with window1 := window 1 e.window1, window2 := window 2 e.window2, bus := house 1 e.bus }
          else e
        houseEntry := s.recon.houseEntry.map fun e =>
          if reason ≠ .superseded ∧ r.period = e.period then
            { e with bus := house 1 e.bus, temp := house 2 e.temp, aux := house 3 e.aux }
          else e }
    comm :=
      if r.owner = .pump ∧ r.window = 2 ∧ reason ≠ .superseded ∧ examined then
        { s.comm with zcRun := 0, firstSample := none }
      else s.comm }

/-! ### Patterns and causes (R11, R15, R90, R95, R131, R140) -/

/-- A phase record after a FLOAT command (R11). -/
def floated (r : PhaseRecord) : PhaseRecord := if r.commanded = .float then r else ⟨.float, .absent, false, false⟩

/-- A phase record after a LOW command whose side may turn on at tick `t` (R11). -/
def lowered (t : Tick) (r : PhaseRecord) : PhaseRecord := if r.commanded = .low then r else ⟨.low, .at t, false, false⟩

/-- The drum planner after a change to a state that gives up the slot and the plans (R23). -/
def emptiedPlanner (p : Planner) : Planner := { p with slot := none, prepared := none, inForce := none }

/-- The causes that take a drum in this state to SAFE (R95). -/
def drumCauseListed (before : DrumState) (c : Cause) : Prop :=
  (c = .lateDuty ∧ before = .run) ∨ (c = .overcurrent ∧ before = .run) ∨
  (c = .permit ∧ (before = .run ∨ before = .ready)) ∨
  (c = .gateFault ∧ (before = .offset ∨ before = .ready ∨ before = .run ∨ before = .brake)) ∨
  (c = .overTemp ∧ (before = .run ∨ before = .brake)) ∨ (c = .linkBreak ∧ (before = .run ∨ before = .brake)) ∨
  (c = .offsetRange ∧ before = .offset)

/-- The causes that take a pump in this state to SAFE (R140). -/
def pumpCauseListed (before : PumpState) (c : Cause) : Prop :=
  (c = .overcurrent ∧ before.running = true) ∨ (c = .stall ∧ before = .closed) ∨ (c = .startFail ∧ before = .ramp) ∨
  (c = .permit ∧ (before.running = true ∨ before = .offset)) ∨
  (c = .gateFault ∧ (before.running = true ∨ before = .offset)) ∨ (c = .overTemp ∧ before.running = true) ∨
  (c = .linkBreak ∧ before.running = true) ∨ (c = .offsetRange ∧ before = .offset)

/-- The pump after it stopped, in this state (R126, R131, R135, R137): no pending duty and no ramp schedule. -/
def stoppedPump (st : PumpState) (p : PumpControl) : PumpControl :=
  { p with state := st, pendingDuty := none, rampPosition := none, rampTime := none }

/-- The commutator after the pump stopped (R126): no due time and no deadline. -/
def stoppedCommutator (c : Commutator) : Commutator := { c with due := none, deadline := none }

/-- The commutator after a commutation that ends the step, with this last ZC time and deadline (R124): the next row,
blanking from B, every mark BLANKED, a detector that starts afresh. -/
def commutated (lastZc deadline : Option Tick) (s : State) : Commutator :=
  { s.comm with
    lastZc := lastZc
    stepIndex := nextStep s.comm.direction s.comm.stepIndex
    blanking := s.pump.profile.blanking
    marks := s.comm.marks.map fun m => { m with examined := false }
    zcRun := 0
    firstSample := none
    stepZc := none
    lastCommutation := some s.time.stepTick
    due := none
    deadline := deadline }

/-- The three pump phases are commanded as the step in progress asks (R111, R112). -/
def StepCommanded (s : State) : Prop :=
  (s.pumpGates.get (stepRow s).high).commanded =
      (if s.pumpCar.half ≤ s.pumpCar.pos + s.comm.onTime ∧ s.pumpCar.pos < s.pumpCar.half + s.comm.onTime then .high
       else .low) ∧
  (s.pumpGates.get (stepRow s).low).commanded = .low ∧ (s.pumpGates.get (stepRow s).floating).commanded = .float

end Sys2Proof.Machine
end

