-- ==== Sys2Proof/Certificates/Slice0/Obligations.lean ====
section
/-! DEFINITION. The statements for the provers. -/

open Sys2Proof Sys2Proof.Machine

/-! ### The step and the queue of commands -/

/-- A step with a command in front runs that command on the state with the rest of the queue. -/
def Obligations.StepRunsFrontCommand : Prop :=
  ∀ (c : Instr) (rest : List Instr) (s : State), s.pending = c :: rest → step s = exec c { s with pending := rest }

/-- With no command waiting, the step takes the next event of the present tick that is due; with none due, a running
Timebase counts one tick, the step-tick count one at each 16th, and both carriers move one position (R1, R3, R4; the
model's choice of log 1 and 2). During a frame the outside may give an edge of LCLK instead (log 8): a rising edge below
128 bits samples LDI into the receive shift register, at 128 bits it samples nothing, the 128th sample takes LDO to 0,
and a falling edge after a sample puts the next upstream bit on LDO, 0 after the last (R145). -/
def Obligations.IdleStepTakesEventOrTick : Prop :=
  let drawn := fun s : State => { s with freeCount := s.freeCount + 1 }
  let ticked := fun s : State =>
    { s with
      time :=
        { s.time with
          tick := s.time.tick + 1
          stepTick := if (s.time.tick + 1).toNat % 16 = 0 then s.time.stepTick + 1 else s.time.stepTick }
      drumCar := { s.drumCar with pos := s.drumCar.pos + 1 }
      pumpCar := { s.pumpCar with pos := s.pumpCar.pos + 1 } }
  (∀ s : State, s.pending = [] →
    (∀ c, dueEvent s = some c → step s = exec c (drawn s)) ∧
    (dueEvent s = none → s.link.frame = none →
      (s.time.running = false → step s = .next s) ∧ (s.time.running = true → step s = .next (ticked s))) ∧
    (∀ fr, dueEvent s = none → s.link.frame = some fr →
      step s = .next
        (match Config.linkEdge s.freeCount with
         | some e => takeLinkEdge e fr (drawn s)
         | none => if s.time.running then ticked (drawn s) else drawn s))) ∧
  (∀ (s : State) (fr : FrameInProgress),
    let n := s.link.bitCount
    let up := [fr.upstream.w0, fr.upstream.w1, fr.upstream.w2, fr.upstream.w3, fr.upstream.w4, fr.upstream.w5,
      fr.upstream.w6, fr.upstream.w7]
    (∀ ldi : Bool,
      (128 ≤ n → takeLinkEdge (.rise ldi) fr s = s) ∧
      (n < 128 → takeLinkEdge (.rise ldi) fr s =
        { s with
          link :=
            { s.link with
              bitCount := n + 1
              shift := s.link.shift <<< 1 ||| (if ldi then 1 else 0)
              ldo := if n = 127 then false else s.link.ldo } })) ∧
    (n = 0 → takeLinkEdge .fall fr s = s) ∧
    (0 < n → takeLinkEdge .fall fr s =
      { s with link := { s.link with ldo := (up.getD (n / 16) 0).getLsbD (15 - n % 16) } }))

/-- Every command is answered by a next state, in every state: none faults and none is refused, which the model deduces
from the spec's giving each row an effect everywhere (log 20). The queue of commands and the counter of free values,
which are the model's own (log 1, 4, 19), stay as they were. -/
def Obligations.EveryCommandAnswersNext : Prop :=
  ∀ (c : Instr) (s : State), ∃ t, exec c s = .next t ∧ t.pending = s.pending ∧ t.freeCount = s.freeCount

/-! ### Timebase and carriers -/

/-- Through every step, the step-tick count follows the tick count, across the wrap of either (R1); the carriers keep
within their periods, with half-periods in range (R3 to R5, R7); and the SETUP store and the tables of the pump keep
their ranges (R6, R28, R83, R107, R129, R130, R148). -/
def Obligations.ClockAndStoresStayKept : Prop :=
  ∀ s t : State, step s = .next t →
    (StepTickFollows s → StepTickFollows t) ∧ (CarriersInRange s → CarriersInRange t) ∧
    (StoresInRange s → StoresInRange t)

/-- The law of the drum period number (R3, R5): it changes only by one at a drum period start that is due, and
otherwise only to 0, at a SETUP or a reset. -/
def Obligations.DrumPeriodNumberLaw : Prop :=
  ∀ (c : Instr) (s t : State), exec c s = .next t →
    ((∃ permit order, c = .drumPeriodStart permit order) → drumStartDue s = true →
      t.drumCar.period = s.drumCar.period + 1) ∧
    (t.drumCar.period ≠ s.drumCar.period →
      ((∃ permit order, c = .drumPeriodStart permit order) ∧ drumStartDue s = true) ∨
      (t.drumCar.period = 0 ∧
        (c = .powerReset ∨ c = .pinReset ∨ c = .reset ∨ ∃ fields permit, c = .setup fields permit)))

/-- The machine after reset has every invariant that the other statements take as a premise. -/
def Obligations.ResetStateIsKept : Prop :=
  GatesFollow State.reset ∧ HighCommandsDrive State.reset ∧ StoresInRange State.reset ∧ CarriersInRange State.reset ∧
  StepTickFollows State.reset ∧ ConverterQueueKept State.reset ∧ QueueOrdered State.reset ∧ RecordsKept State.reset ∧
  ReconstructorInRange State.reset ∧ DrumKept State.reset ∧ PumpKept State.reset ∧ MissesKept State.reset

/-! ### What the link carries -/

/-- Decoding the frame that a well-formed command is encoded as gives the command back, with every field at every
value its width admits (R147, R151, R167; section 10.1). The level on PERMIT at a SETUP and the order of R150 are on no
bit of a frame, so they are given to the decoder. -/
def Obligations.DecodeOfEncodedFrame : Prop :=
  ∀ (c : Instr) (f : Frame) (permit : Bool) (first : Motor), c.wellFormed = true → encodeFrame c = some f →
    (∀ fields p, c = .setup fields p → p = permit) → (∀ m, c = .breakFrame m → m = first) →
    decodeFrame permit first f = c

/-- A frame of 128 bits whose check word disagrees with its words is a CHECK_ERROR, unless all its bits are 0, which is
a break frame; fewer than 128 bits are a short frame (R146, R147, R149). A frame that carries its check does not agree
with it once any one of its 128 bits is inverted. -/
def Obligations.DamagedFramesAreDiscarded : Prop :=
  (∀ (permit : Bool) (first : Motor),
    (∀ f : Frame, f ≠ ⟨0, 0, 0, 0, 0, 0, 0, 0⟩ → f.w7 ≠ crcOf f.w0 f.w1 f.w2 f.w3 f.w4 f.w5 f.w6 →
      decodeFrame permit first f = .checkError) ∧
    decodeFrame permit first ⟨0, 0, 0, 0, 0, 0, 0, 0⟩ = .breakFrame first ∧
    (∀ bits : List Bool, bits.length < 128 → decodeLine permit first bits = .shortFrame bits.length)) ∧
  (∀ (w0 w1 w2 w3 w4 w5 w6 : Word) (i : Nat), i < 16 →
    let e : Word := 1#16 <<< i
    let f := sealFrame w0 w1 w2 w3 w4 w5 w6
    f.checks = true ∧
    Frame.checks { f with w0 := w0 ^^^ e } = false ∧ Frame.checks { f with w1 := w1 ^^^ e } = false ∧
    Frame.checks { f with w2 := w2 ^^^ e } = false ∧ Frame.checks { f with w3 := w3 ^^^ e } = false ∧
    Frame.checks { f with w4 := w4 ^^^ e } = false ∧ Frame.checks { f with w5 := w5 ^^^ e } = false ∧
    Frame.checks { f with w6 := w6 ^^^ e } = false ∧ Frame.checks { f with w7 := f.w7 ^^^ e } = false)

/-! ### Gate outputs -/

/-- Through every step, the twelve outputs are on exactly where the commands, the enable times and the forcing call for
it, and no phase is commanded HIGH outside the driving states (R10 to R14, R90, R131). So the two laws of the outputs
hold (R11, R13): no two outputs of a phase are on together, and a high side is on only while its motor drives, with its
dry-run flag clear, the validated permit ACTIVE and its FAULT line inactive. -/
def Obligations.GateOutputLaws : Prop :=
  ∀ s t : State, step s = .next t →
    (GatesFollow s → GatesFollow t) ∧ (HighCommandsDrive s → HighCommandsDrive t) ∧
    (GatesFollow s → HighCommandsDrive s →
      (∀ m x, ¬(((gatesOf m t).get x).high = true ∧ ((gatesOf m t).get x).low = true)) ∧
      (∀ x, (t.drumGates.get x).high = true →
        t.drum.state = .run ∧ t.drum.dry = false ∧ t.input.permit = true ∧ t.input.faultD = false) ∧
      (∀ x, (t.pumpGates.get x).high = true →
        t.pump.state.running = true ∧ t.pump.dry = false ∧ t.input.permit = true ∧ t.input.faultP = false))

/-- An output turns on at one event only, its phase's enable time, and only when that time has been reached (R10, R11,
R14): no command, no end of a forcing and no other event turns an output on.
Dead time (R11, R14): a command to another state has both sides of the phase off, and its enable time is then DT from
that tick, or absent for FLOAT. While the commanded state stays, an enable time moves only to the mark that it was
reached, or to DT from the tick at hand, or stands. So a side turns on DT or more after its partner could last be on. -/
def Obligations.OutputsTurnOnAtEnableTimesOnly : Prop :=
  (∀ (c : Instr) (s t : State) (m : Motor) (x : Phase), GatesFollow s → exec c s = .next t →
    (((gatesOf m s).get x).high = false ∧ ((gatesOf m t).get x).high = true) ∨
      (((gatesOf m s).get x).low = false ∧ ((gatesOf m t).get x).low = true) →
    c = .enableTimeReached m x ∧ s.time.running = true ∧
    ∃ u, ((gatesOf m s).get x).enable = .at u ∧ reached u s.time.tick = true) ∧
  (∀ (c : Instr) (s t : State) (m : Motor) (x : Phase), GatesFollow s → exec c s = .next t →
    let a := (gatesOf m s).get x
    let b := (gatesOf m t).get x
    (b.commanded ≠ a.commanded →
      b.high = false ∧ b.low = false ∧ (b.commanded = .float → b.enable = .absent) ∧
      (b.commanded ≠ .float → b.enable = .at (s.time.tick + BitVec.ofNat 32 t.setup.dt))) ∧
    (b.commanded = a.commanded →
      b.enable = a.enable ∨ b.enable = .at (s.time.tick + BitVec.ofNat 32 t.setup.dt) ∨
      (b.enable = .reached ∧ ∃ u, a.enable = .at u ∧ reached u s.time.tick = true)))

/-- ENABLE_TIME_REACHED at a phase whose enable time has been reached: the mark takes the place of the tick count, and
the commanded side turns on unless the present forcing holds it off (R10). A plan edge and a span edge command their
phase (R11, R37, R111): both its sides are off, and the newly commanded side may turn on DT after the edge. Nothing
else changes at any of them. -/
def Obligations.EnableTimesAndEdges : Prop :=
  (∀ (s : State) (x : Phase) (u : Tick), s.time.running = true → reached u s.time.tick = true →
    ((s.drumGates.get x).enable = .at u →
      exec (.enableTimeReached .drum x) s = .next
        { s with
          drumGates := s.drumGates.set x
            { commanded := (s.drumGates.get x).commanded
              enable := .reached
              high := decide ((s.drumGates.get x).commanded = .high) &&
                !(s.input.faultD || s.drum.dry || !s.input.permit)
              low := decide ((s.drumGates.get x).commanded = .low) && !(s.input.faultD || s.drum.dry) } }) ∧
    ((s.pumpGates.get x).enable = .at u →
      exec (.enableTimeReached .pump x) s = .next
        { s with
          pumpGates := s.pumpGates.set x
            { commanded := (s.pumpGates.get x).commanded
              enable := .reached
              high := decide ((s.pumpGates.get x).commanded = .high) &&
                !(s.input.faultP || s.pump.dry || !s.input.permit)
              low := decide ((s.pumpGates.get x).commanded = .low) && !(s.input.faultP || s.pump.dry) } })) ∧
  (∀ (s : State) (x : Phase) (p : Plan), s.drum.state = .run → s.planner.inForce = some p →
    s.drumCar.pos < 2 * s.drumCar.half → planLevel p x s.drumCar.pos ≠ (s.drumGates.get x).commanded →
    exec (.planEdge x) s = .next
      { s with
        drumGates := s.drumGates.set x
          { commanded := planLevel p x s.drumCar.pos
            enable := .at (s.time.tick + BitVec.ofNat 32 s.setup.dt)
            high := false
            low := false } }) ∧
  (∀ s : State, s.pump.state.running = true → s.pumpCar.pos < 2 * s.pumpCar.half →
    spanLevel s ≠ (s.pumpGates.get (stepRow s).high).commanded →
    exec .pumpSpanEdge s = .next
      { s with
        pumpGates := s.pumpGates.set (stepRow s).high
          { commanded := spanLevel s
            enable := .at (s.time.tick + BitVec.ofNat 32 s.setup.dt)
            high := false
            low := false } })

/-- A FAULT line that falls (R13, R16, R95 to R97, R140, R141) turns all six outputs of its motor off at once and
leaves the other motor as it was. A motor in OFF keeps its state, one in SAFE takes GATE_FAULT as a further cause, and
both keep their commands and enable times; any other enters SAFE with cause GATE_FAULT, whose pattern its phases take
(R15, R90, R131). A FAULT line that rises (R14, R16) releases the commanded sides that no
other cause forces off, to turn on DT later at the earliest, and changes nothing else. -/
def Obligations.FaultLinesForceAndRelease : Prop :=
  let off := fun r : PhaseRecord => { r with high := false, low := false }
  (∀ s : State, s.input.faultD = false → ∃ t, exec (.faultLineFall .drum) s = .next t ∧
    t.input = { s.input with faultD := true } ∧
    (∀ x, (t.drumGates.get x).high = false ∧ (t.drumGates.get x).low = false) ∧
    t = { s with input := t.input, drumGates := t.drumGates, planner := t.planner, recon := t.recon, drum := t.drum, link := t.link, rq := t.rq } ∧
    (s.drum.state = .off → t.drumGates = s.drumGates.map off ∧
      t.drum = s.drum ∧ t.planner = s.planner ∧ t.recon = s.recon ∧ t.rq = s.rq ∧ t.link = s.link) ∧
    (s.drum.state = .safe → t.drumGates = s.drumGates.map off ∧
      t.drum = { s.drum with
        cause := s.drum.cause.map fun r => { r with further := { r.further with gateFault := true } } } ∧
      t.planner = s.planner ∧ t.recon = s.recon ∧ t.rq = s.rq ∧ t.link = s.link) ∧
    (s.drum.state ≠ .off → s.drum.state ≠ .safe →
      t.drumGates =
        (if s.setup.brake then s.drumGates.map (lowered (s.time.tick + BitVec.ofNat 32 s.setup.dt))
         else s.drumGates.map floated).map off ∧
      t.drum.state = .safe ∧ t.drum.cause = some ⟨.gateFault, ⟨false, false, false⟩⟩ ∧ t.drum.stopPending = none ∧
      t.recon = { s.recon with periodEntry := endingEntry s })) ∧
  (∀ s : State, s.input.faultP = false → ∃ t, exec (.faultLineFall .pump) s = .next t ∧
    t.input = { s.input with faultP := true } ∧
    (∀ x, (t.pumpGates.get x).high = false ∧ (t.pumpGates.get x).low = false) ∧
    t = { s with input := t.input, pumpGates := t.pumpGates, comm := t.comm, pump := t.pump, link := t.link, rq := t.rq } ∧
    (s.pump.state = .off → t.pumpGates = s.pumpGates.map off ∧
      t.pump = s.pump ∧ t.comm = s.comm ∧ t.rq = s.rq ∧ t.link = s.link) ∧
    (s.pump.state = .safe → t.pumpGates = s.pumpGates.map off ∧
      t.pump = { s.pump with
        cause := s.pump.cause.map fun r => { r with further := { r.further with gateFault := true } } } ∧
      t.comm = s.comm ∧ t.rq = s.rq ∧ t.link = s.link) ∧
    (s.pump.state ≠ .off → s.pump.state ≠ .safe →
      t.pumpGates = (s.pumpGates.map floated).map off ∧
      t.pump.state = .safe ∧ t.pump.cause = some ⟨.gateFault, ⟨false, false, false⟩⟩ ∧
      t.comm = stoppedCommutator s.comm)) ∧
  (∀ s : State, GatesFollow s →
    (s.input.faultD = true → exec (.faultLineRise .drum) s = .next
      { s with
        input := { s.input with faultD := false }
        drumGates := s.drumGates.map fun r =>
          if s.drum.dry = false ∧ (r.commanded = .low ∨ (r.commanded = .high ∧ s.input.permit = true)) then
            { r with enable := laterEnable r.enable (s.time.tick + BitVec.ofNat 32 s.setup.dt) }
          else r }) ∧
    (s.input.faultP = true → exec (.faultLineRise .pump) s = .next
      { s with
        input := { s.input with faultP := false }
        pumpGates := s.pumpGates.map fun r =>
          if s.pump.dry = false ∧ (r.commanded = .low ∨ (r.commanded = .high ∧ s.input.permit = true)) then
            { r with enable := laterEnable r.enable (s.time.tick + BitVec.ofNat 32 s.setup.dt) }
          else r }))

/-! ### The plan arithmetic -/

/-- R29, R30 and R110: the raw on-time is floor(d × H / 65536) and lies below H, from 0 at a fraction of 0 to H − 1 at
the largest; the minimum-pulse rule moves it to 0 or
to H in the two trimmed ranges and keeps it elsewhere; PULSE_TRIMMED says whether a plan moved one. So every applied
drum on-time and pump on-time is 0, the half-period, or within DT to the half-period less DT. -/
def Obligations.OnTimesAreTrimmed : Prop :=
  ∀ (half dt : Nat), Within 1000 8000 half → Within 16 255 dt →
    let raw := fun d : Word => d.toNat * half / 65536
    let trimmed := fun (d : Word) (t : Nat) => raw d < half ∧
      (0 < raw d → raw d < dt → t = 0) ∧ (half - dt < raw d → t = half) ∧
      (raw d = 0 ∨ Within dt (half - dt) (raw d) → t = raw d) ∧ (t = 0 ∨ t = half ∨ Within dt (half - dt) t)
    raw 0#16 = 0 ∧ raw 65535#16 = half - 1 ∧
    (∀ (period : Word) (tsettle : Nat) (d : PerPhase Word),
      let p := buildPlan period half dt tsettle d
      (∀ x, trimmed (d.get x) (p.onTime.get x)) ∧ (p.trimmed = true ↔ ∃ x, p.onTime.get x ≠ raw (d.get x))) ∧
    (∀ d : Word, trimmed d (trimPulse half dt (rawOnTime d half)))

/-- R31: the ranking names each phase once, by applied on-time with the largest first; equal on-times rank A above B
above C; three equal on-times rank ABC. -/
def Obligations.RankingOrdersOnTimes : Prop :=
  ∀ (period : Word) (half dt tsettle : Nat) (d : PerPhase Word),
    let p := buildPlan period half dt tsettle d
    let r := p.ranking
    let index : Phase → Nat := fun x => match x with | .a => 0 | .b => 1 | .c => 2
    let before := fun x y => p.onTime.get y < p.onTime.get x ∨ (p.onTime.get x = p.onTime.get y ∧ index x < index y)
    before r.maxPhase r.midPhase ∧ before r.midPhase r.minPhase ∧ before r.maxPhase r.minPhase ∧
    (∀ x, x = r.maxPhase ∨ x = r.midPhase ∨ x = r.minPhase) ∧
    (p.onTime.a = p.onTime.b → p.onTime.b = p.onTime.c → r = .abc)

/-- R33 to R35: the shift of a window narrower than Wmin is what it needs within the room of both halves, the other
window's phase and the mid phase are not shifted, the half on-times stay within 0..H, and each phase's half on-times
sum to twice its applied on-time. -/
def Obligations.HalfOnTimesKeepVoltSeconds : Prop :=
  ∀ (period : Word) (half dt tsettle : Nat) (d : PerPhase Word),
    let p := buildPlan period half dt tsettle d
    let tmax := p.onTime.get p.ranking.maxPhase
    let tmid := p.onTime.get p.ranking.midPhase
    let tmin := p.onTime.get p.ranking.minPhase
    let wmin := dt + tsettle + 16
    let s1 := if tmax - tmid < wmin then min (wmin - (tmax - tmid)) (min (half - tmax) tmax) else 0
    let s2 := if tmid - tmin < wmin then min (wmin - (tmid - tmin)) (min tmin (half - tmin)) else 0
    p.up.get p.ranking.maxPhase = tmax + s1 ∧ p.down.get p.ranking.maxPhase = tmax - s1 ∧
    p.up.get p.ranking.midPhase = tmid ∧ p.down.get p.ranking.midPhase = tmid ∧
    p.up.get p.ranking.minPhase = tmin - s2 ∧ p.down.get p.ranking.minPhase = tmin + s2 ∧
    (p.shift1 = true ↔ 0 < s1) ∧ (p.shift2 = true ↔ 0 < s2) ∧
    (∀ x, p.up.get x ≤ half ∧ p.down.get x ≤ half ∧ p.up.get x + p.down.get x = 2 * p.onTime.get x)

/-- R36 and R38: a window is SHORT when it stays below Wmin after its shift, and then has no request; otherwise its
request spans exactly the room that Wmin leaves, and it lies within the period. -/
def Obligations.WindowsGiveRequests : Prop :=
  ∀ (period : Word) (half dt tsettle : Nat) (d : PerPhase Word),
    let p := buildPlan period half dt tsettle d
    let tmax := p.onTime.get p.ranking.maxPhase
    let tmid := p.onTime.get p.ranking.midPhase
    let tmin := p.onTime.get p.ranking.minPhase
    let s1 := p.up.get p.ranking.maxPhase - tmax
    let s2 := p.down.get p.ranking.minPhase - tmin
    let wmin := dt + tsettle + 16
    (p.short1 = true ↔ tmax - tmid + s1 < wmin) ∧ (p.short2 = true ↔ tmid - tmin + s2 < wmin) ∧
    (p.short1 = true → p.window1 = none ∧ p.request1 = none) ∧
    (p.short2 = true → p.window2 = none ∧ p.request2 = none) ∧
    (p.short1 = false →
      p.window1 = some ⟨half - tmax - s1, half - tmid⟩ ∧
      ∃ q, p.request1 = some q ∧ q.earliest = half - tmax - s1 + dt + tsettle ∧ q.latest + 16 = half - tmid ∧
        q.latest = q.earliest + (tmax - tmid + s1 - wmin)) ∧
    (p.short2 = false →
      p.window2 = some ⟨half - tmid, half - tmin + s2⟩ ∧
      ∃ q, p.request2 = some q ∧ q.earliest = half - tmid + dt + tsettle ∧ q.latest + 16 = half - tmin + s2 ∧
        q.latest = q.earliest + (tmid - tmin + s2 - wmin))

/-- R35, R37, R41: over the 2H positions of its period, a plan commands each phase HIGH at exactly twice its applied
on-time of them, whatever the shifts. -/
def Obligations.PlanHighTicksAreTwiceOnTime : Prop :=
  ∀ (period : Word) (half dt tsettle : Nat) (d : PerPhase Word) (x : Phase),
    let p := buildPlan period half dt tsettle d
    ((List.range (2 * half)).filter fun pos => decide (planLevel p x pos = .high)).length = 2 * p.onTime.get x

/-! ### The drum planner -/

/-- A DUTY frame in READY of the link (R20, R21): in READY or RUN of the drum it fills the slot, and marks a replaced
entry with DUTY_OVERWRITE; in any other drum state it is refused with BAD_STATE. Nothing else changes. -/
def Obligations.DutyFrameFillsSlot : Prop :=
  ∀ (d : PerPhase Word) (s : State) (fr : FrameInProgress), Receiving s fr → s.link.state = .ready →
    (s.drum.state = .ready ∨ s.drum.state = .run →
      exec (.duty d) s = .next
        { s with
          rq := queueAfter fr s
          planner := { s.planner with slot := some d }
          link :=
            { linkAfter .ok s with
              flags := { s.link.flags with dutyOverwrite := s.link.flags.dutyOverwrite || s.planner.slot.isSome } } }) ∧
    (s.drum.state = .off ∨ s.drum.state = .offset ∨ s.drum.state = .brake ∨ s.drum.state = .safe →
      exec (.duty d) s = .next (answered fr .badState s))

/-- PLAN_POINT, at its position in the period (R8, R24 to R27, R44): in READY or RUN it takes a full slot and builds the
next period's plan from it with the H just latched; in RUN an empty slot is a miss, with LATE_DUTY at the first, a plan
from the last applied fractions below Kmiss and SAFE with cause LATE_DUTY at Kmiss, where LATE_DUTY, if this is the first
miss, joins before SAFE_ENTRY; and nowhere else does it plan. The notices' stamps follow log 15. -/
def Obligations.PlanPointPlansOrMisses : Prop :=
  ∀ s : State, s.time.running = true → s.drumCar.planTaken = false → 2 * s.drumCar.half ≤ s.drumCar.pos + s.setup.lp →
    let u := latchedAtPoint s
    let plan := fun d =>
      some (buildPlan (s.drumCar.period + 1) s.drumCar.pendingHalf s.setup.dt s.setup.tsettle d)
    (∀ d, s.planner.slot = some d →
      s.drum.state = .ready ∨ (s.drum.state = .run ∧ s.drum.stopPending = none) →
      exec .planPoint s = .next
        { u with
          planner := { s.planner with slot := none, misses := 0, lastApplied := d, prepared := plan d } }) ∧
    (s.planner.slot = none → s.drum.state = .run → s.drum.stopPending = none → s.planner.misses + 1 < s.setup.kmiss →
      let v :=
        { u with
          planner := { s.planner with misses := s.planner.misses + 1, prepared := plan s.planner.lastApplied } }
      exec .planPoint s = .next
        (if s.planner.misses = 0 then joinNotice (.lateDuty s.drumCar.period) v else v)) ∧
    (s.planner.slot = none → s.drum.state = .run → s.drum.stopPending = none → s.setup.kmiss ≤ s.planner.misses + 1 →
      ∃ t, exec .planPoint s = .next t ∧ t.drum.state = .safe ∧
        t.drum.cause = some ⟨.lateDuty, ⟨false, false, false⟩⟩ ∧ t.planner.misses = s.planner.misses + 1 ∧
        t.planner.prepared = none ∧ t.planner.inForce = none ∧ t.planner.lastApplied = s.planner.lastApplied ∧
        t.recon = { s.recon with periodEntry := endingEntry s } ∧ t.drumCar = u.drumCar ∧
        t.rq =
          (joinNotice (.safeEntry .drum .lateDuty)
            (if s.planner.misses = 0 then joinNotice (.lateDuty s.drumCar.period) u else u)).rq ∧
        t = { s with drumCar := t.drumCar, drumGates := t.drumGates, planner := t.planner, recon := t.recon, drum := t.drum, link := t.link, rq := t.rq }) ∧
    (s.drum.state = .off ∨ s.drum.state = .offset ∨ s.drum.state = .brake ∨ s.drum.state = .safe ∨
        (s.drum.state = .ready ∧ s.planner.slot = none) ∨
        (s.drum.state = .run ∧ s.drum.stopPending.isSome = true) →
      exec .planPoint s = .next u)

/-- The limits of both miss counters are kept by every step while the motor is out of OFF (R26, R122; log 24). -/
def Obligations.MissCountersKeepLimits : Prop :=
  ∀ s t : State, StoresInRange s → MissesKept s → step s = .next t → MissesKept t

/-! ### The converter -/

/-- The conversion request queue never holds more than eight requests, nor two with one key, and every request held or
in conversion has an input (R46, R48, R51, R62), through every step. It stands in the order of R49, through every step
whose half-periods are in range.
A request that joins takes its place by that order, behind those it does not stand before; one with the key of a queued
request takes the place of that request, which leaves with LOST, SUPERSEDED (R50); with eight others queued it is lost
itself, QUEUE_FULL, and the queue is not disturbed (R51). A LOST outcome is counted and delivered to its owner (R57,
R59). Nothing else changes. -/
def Obligations.ConverterQueueStaysKept : Prop :=
  (∀ s t : State, ConverterQueueKept s → step s = .next t → ConverterQueueKept t) ∧
  (∀ s t : State, CarriersInRange s → QueueOrdered s → step s = .next t → QueueOrdered t) ∧
  (∀ (r : Request) (s : State),
    let same := fun q : Request => q.owner = r.owner ∧ q.period = r.period ∧ q.window = r.window
    let place := fun ahead behind : List Request =>
      (∀ q ∈ ahead, ¬r.Before q) ∧ (∀ q, behind.head? = some q → r.Before q)
    (∀ ahead behind, (∀ q ∈ s.sched.queue, ¬same q) → s.sched.queue.length < 8 → s.sched.queue = ahead ++ behind →
      place ahead behind →
      joinRequest r s = { s with sched := { s.sched with queue := ahead ++ r :: behind } }) ∧
    (∀ xs old ys ahead behind, s.sched.queue = xs ++ old :: ys → same old → (∀ q ∈ xs, ¬same q) →
      xs ++ ys = ahead ++ behind → place ahead behind →
      let u := afterLost .superseded old s
      joinRequest r s = { u with sched := { u.sched with queue := ahead ++ r :: behind } }) ∧
    ((∀ q ∈ s.sched.queue, ¬same q) → 8 ≤ s.sched.queue.length → joinRequest r s = afterLost .queueFull r s))

/-- The requests of the period starts, into an empty queue (R5, R48, R49, R64, R65, R67 to R69, R84, R85). Every drum
period start makes BUS, and at every 64th number TEMP and AUX, of the rows that name an input, and opens the house
entry of that number; in OFFSET the calibration request is among them, in RUN the requests of the plan applied, at the
entry to RUN from READY too (R40, R93), and in the other states no more. A SETUP makes them for period 0. A pump period start
in a running state makes the shunt request of its window, and outside ALIGN that of the floating phase, or none when
the window is below Wmin; in OFFSET it makes the calibration request. -/
def Obligations.PeriodStartsMakeRequests : Prop :=
  let made := fun (s : State) (m : Measurand) (l : List Request) => if (inputRow m s).input.isSome then l else []
  let house := fun (s : State) (n : Word) (half : Nat) =>
    made s .bus [⟨.house, .bus, n, 1, s.time.tick, s.time.tick + BitVec.ofNat 32 (half / 2)⟩]
  let house64 := fun (s : State) (n : Word) (half : Nat) =>
    if n.toNat % 64 = 0 then
      made s .temp [⟨.house, .temp, n, 2, s.time.tick, s.time.tick + BitVec.ofNat 32 half⟩] ++
      made s .aux [⟨.house, .aux, n, 3, s.time.tick, s.time.tick + BitVec.ofNat 32 half⟩] else []
  let slot := fun (s : State) (m : Measurand) =>
    if (inputRow m s).input.isSome then HouseSlot.awaited else HouseSlot.notRequested
  let entry := fun (s : State) (n : Word) =>
    if n.toNat % 64 = 0 then some (HouseEntry.mk n s.time.tick (slot s .bus) (slot s .temp) (slot s .aux)) else none
  (∀ (permit : Bool) (o : PeriodOrder) (s : State), CarriersInRange s → drumStartDue s = true → s.sched.queue = [] →
    let now := s.time.tick
    let n := s.drumCar.period + 1
    let half := s.drumCar.latchedHalf
    ∃ t, exec (.drumPeriodStart permit o) s = .next t ∧ t.recon.houseEntry = entry s n ∧
      (∀ r ∈ house s n half ++ house64 s n half, r ∈ t.sched.queue) ∧
      (s.drum.state = .off ∨ s.drum.state = .brake ∨ s.drum.state = .safe ∨
          (s.drum.state = .ready ∧ s.planner.prepared = none) ∨
          (s.drum.state = .offset ∧ s.drum.calib.periods ≠ 256) →
        t.sched.queue =
          house s n half ++
          (if s.drum.state = .offset then
            made s .drumShunt [⟨.drum, .drumShunt, n, 1, now, now + BitVec.ofNat 32 half⟩] else []) ++
          house64 s n half) ∧
      (∀ p, DrumKept s →
        s.drum.state = .ready ∨ (s.drum.state = .run ∧ s.drum.stopPending = none ∧ s.recon.overRun < 2) →
        (permit = true ∧ s.input.permit = true) ∨ s.drum.dry = true → s.planner.prepared = some p →
        (inputRow .drumShunt s).input.isSome = true →
        (∀ q, p.request1 = some q →
          (⟨.drum, .drumShunt, n, 1, now + BitVec.ofNat 32 q.earliest, now + BitVec.ofNat 32 q.latest⟩ : Request) ∈
            t.sched.queue) ∧
        (∀ q, p.request2 = some q →
          (⟨.drum, .drumShunt, n, 2, now + BitVec.ofNat 32 q.earliest, now + BitVec.ofNat 32 q.latest⟩ : Request) ∈
            t.sched.queue))) ∧
  (∀ (f : SetupFields) (permit : Bool) (s : State) (fr : FrameInProgress), Receiving s fr → s.drum.state = .off →
    s.pump.state = .off → s.sched.queue = [] →
    let half := max 1000 (min 8000 f.h.toNat)
    ∃ t, exec (.setup f permit) s = .next t ∧ t.sched = { s.sched with queue := house s 0 half ++ house64 s 0 half } ∧
      t.recon = { s.recon with periodEntry := none, houseEntry := entry s 0 }) ∧
  (∀ (schedulerFirst : Bool) (s : State), pumpStartDue s = true → s.sched.queue = [] →
    (inputRow .pumpShunt s).input.isSome = true → (inputRow (phaseVoltage (stepRow s).floating) s).input.isSome = true →
    let now := s.time.tick
    let n := s.pumpCar.period + 1
    let half := s.pumpCar.pendingHalf
    ∃ t, exec (.pumpPeriodStart schedulerFirst) s = .next t ∧
      (s.pump.state = .offset → s.pump.calib.periods ≠ 256 →
        t.sched.queue = [⟨.pump, .pumpShunt, n, 1, now, now + BitVec.ofNat 32 half⟩]) ∧
      (s.pump.state.running = true →
        let earliest := now + BitVec.ofNat 32 (half - t.comm.onTime + s.setup.dt + s.setup.tsettle)
        let latest := now + BitVec.ofNat 32 (half + t.comm.onTime - 16)
        (2 * t.comm.onTime < s.setup.dt + s.setup.tsettle + 16 → t.sched.queue = []) ∧
        (s.setup.dt + s.setup.tsettle + 16 ≤ 2 * t.comm.onTime → t.sched.queue =
          ⟨.pump, .pumpShunt, n, 1, earliest, latest⟩ ::
            (if s.pump.state = .align then []
             else [⟨.pump, phaseVoltage (stepRow s).floating, n, 2, earliest, latest⟩]))))

/-- CONVERSION_START (R45, R46, R52): with the converter idle and no period start of this tick still to come, the first
eligible request in queue order leaves the queue and is converted on its row's input; nothing else changes. That a
choice waits for the period starts of its tick is read from R52 (deduced, log 22). -/
def Obligations.ArbiterStartsFirstEligible : Prop :=
  ∀ (s : State) (ahead behind : List Request) (r : Request), s.sched.converter = none →
    s.sched.queue = ahead ++ r :: behind → drumStartDue s = false → pumpStartDue s = false →
    (∀ q ∈ ahead, reached q.earliest s.time.tick = false ∨ passed q.latest s.time.tick = true) →
    reached r.earliest s.time.tick = true → passed r.latest s.time.tick = false →
    exec .conversionStart s = .next
      { s with
        sched :=
          { s.sched with
            queue := ahead ++ behind
            converter := some ⟨r, (inputRow r.measurand s).input, s.time.tick, s.time.stepTick⟩ } }

/-- CONVERSION_DONE, 64 ticks after the start (R45, R55 to R57, R59, R66): the converter is idle, a BUS code becomes the
latest bus reading, no code counts as lost, the queue is untouched; a DRUM code reaches the drum's blocks alone, a PUMP
code the pump's, and a HOUSE code, but for a TEMP code, neither.
A code is filed in the open entries (R72). A BUS code moves the bus-high run, and the third in a row above the trip
begins an episode with BUS_HIGH (R79, its stamp log 15). A TEMP code moves the over-temperature run, and one that finds
or brings it to 3 takes each running motor to SAFE with OVER_TEMP (R80). -/
def Obligations.ConversionYieldsItsCode : Prop :=
  ∀ (code : Code) (first : Motor) (s : State) (c : Conversion), s.sched.converter = some c →
    reached (c.start + 64) s.time.tick = true →
    let value := correctedValue c.request.measurand code (inputRow c.request.measurand s).offset
    let above := fun m : Measurand => decide ((inputRow m s).trip ≠ 0 ∧ (inputRow m s).trip.toNat < value.toNat)
    let o : ConversionOutcome :=
      ⟨c.request.owner, c.request.measurand, c.request.period, c.request.window, .code code value c.start c.startStep⟩
    let filed : Reconstructor :=
      { s.recon with
        periodEntry := s.recon.periodEntry.map (PeriodEntry.file o)
        houseEntry := s.recon.houseEntry.map (HouseEntry.file o) }
    ∃ t, exec (.conversionDone code first) s = .next t ∧ t.sched.converter = none ∧ t.sched.queue = s.sched.queue ∧
      t.sched.lostDrum = s.sched.lostDrum ∧ t.sched.lostPump = s.sched.lostPump ∧
      t.sched.busReading =
        (if c.request.owner = .house ∧ c.request.window = 1 then value.toNat else s.sched.busReading) ∧
      (c.request.owner = .drum →
        t = { s with sched := t.sched, drumGates := t.drumGates, planner := t.planner, recon := t.recon, drum := t.drum, link := t.link, rq := t.rq }) ∧
      (c.request.owner = .drum → s.drum.state ≠ .offset →
        t = { s with sched := { s.sched with converter := none }, recon := filed }) ∧
      (c.request.owner = .pump →
        t = { s with sched := t.sched, pumpGates := t.pumpGates, comm := t.comm, pump := t.pump, link := t.link, rq := t.rq }) ∧
      (c.request.owner = .house → c.request.window = 1 →
        let run := if above .bus then min (s.recon.busHighRun + 1) 3 else 0
        let begins := above .bus ∧ run = 3 ∧ s.recon.busHighActive = false
        t.recon =
          { filed with
            busHighRun := run
            busHighActive := above .bus && (decide (run = 3) || s.recon.busHighActive) } ∧
        (¬begins → t.rq = s.rq ∧ t.link = s.link) ∧
        (begins → t.rq = (joinNotice (.busHigh c.request.period value.toNat) s).rq)) ∧
      (c.request.owner = .house → c.request.window = 2 →
        let run := if above .temp then min (s.recon.overTempRun + 1) 3 else 0
        t.recon.overTempRun = run ∧
        (run ≠ 3 →
          t = { s with sched := { s.sched with converter := none }, recon := { filed with overTempRun := run } }) ∧
        (run = 3 →
          (s.drum.state = .run ∨ s.drum.state = .brake →
            t.drum.state = .safe ∧ t.drum.cause = some ⟨.overTemp, ⟨false, false, false⟩⟩) ∧
          (s.drum.state ≠ .run → s.drum.state ≠ .brake → t.drum = s.drum ∧ t.recon = { filed with overTempRun := run }) ∧
          (s.pump.state.running = true →
            t.pump.state = .safe ∧ t.pump.cause = some ⟨.overTemp, ⟨false, false, false⟩⟩) ∧
          (s.pump.state.running = false → t.pump = s.pump ∧ t.comm = s.comm ∧ t.pumpGates = s.pumpGates))) ∧
      (c.request.owner = .house → c.request.window ≠ 1 → c.request.window ≠ 2 →
        t = { s with sched := { s.sched with converter := none }, recon := filed }) ∧
      (c.request.owner = .house → c.request.window ≠ 2 →
        t = { s with sched := t.sched, recon := t.recon, link := t.link, rq := t.rq }) ∧
      t = { s with sched := t.sched, drumGates := t.drumGates, pumpGates := t.pumpGates, planner := t.planner, recon := t.recon, drum := t.drum, comm := t.comm, pump := t.pump, link := t.link, rq := t.rq }

/-- REQUEST_EXPIRY (R54, R55, R58, R59, R72, R115): the first request whose latest start has been passed leaves the
queue lost, and its owner's counter rises by one up to 65535. A window, bus or house slot of its period that awaited it
holds LOST with CONVERTER_BUSY, an examined floating-phase sample breaks the ZC run, and nothing else changes. -/
def Obligations.ExpiredRequestIsLost : Prop :=
  ∀ (s : State) (ahead behind : List Request) (r : Request), s.sched.queue = ahead ++ r :: behind →
    (∀ q ∈ ahead, passed q.latest s.time.tick = false) → passed r.latest s.time.tick = true →
    let window := fun (n : Nat) (w : WindowSlot) =>
      if r.owner = .drum ∧ r.window = n ∧ w = .awaited then .lost .converterBusy else w
    let house := fun (n : Nat) (w : HouseSlot) =>
      if r.owner = .house ∧ r.window = n ∧ w = .awaited then .lost .converterBusy else w
    exec .requestExpiry s = .next
      { s with
        sched :=
          { s.sched with
            queue := ahead ++ behind
            lostDrum := if r.owner = .drum then min (s.sched.lostDrum + 1) 65535 else s.sched.lostDrum
            lostPump := if r.owner = .pump then min (s.sched.lostPump + 1) 65535 else s.sched.lostPump }
        recon :=
          { s.recon with
            periodEntry := s.recon.periodEntry.map fun e =>
              if r.period = e.period then
                { e with window1 := window 1 e.window1, window2 := window 2 e.window2, bus := house 1 e.bus }
              else e
            houseEntry := s.recon.houseEntry.map fun e =>
              if r.period = e.period then
                { e with bus := house 1 e.bus, temp := house 2 e.temp, aux := house 3 e.aux }
              else e }
        comm :=
          if r.owner = .pump ∧ r.window = 2 ∧ examines r.period s = true then
            { s.comm with zcRun := 0, firstSample := none }
          else s.comm }

/-! ### The reconstruction -/

/-- The corrected value of R56: the raw code less the offset for the two shunts, and for the others the same but never
below 0.
R74: with both samples corrected by one offset, the three currents are S1 at the max phase, S2 − S1 at the mid and
−S2 at the min, each lies within −4096..+4095 so that the clamp leaves it, and they sum to 0. -/
def Obligations.SamplesGiveCurrents : Prop :=
  (∀ (m : Measurand) (raw offset : Code),
    (m = .drumShunt ∨ m = .pumpShunt → correctedValue m raw offset = (raw.toNat : Int) - offset.toNat ∧
      -4095 ≤ correctedValue m raw offset ∧ correctedValue m raw offset ≤ 4095) ∧
    (m = .bus ∨ m = .pumpVa ∨ m = .pumpVb ∨ m = .pumpVc ∨ m = .temp ∨ m = .aux →
      (offset.toNat ≤ raw.toNat → correctedValue m raw offset = (raw.toNat : Int) - offset.toNat) ∧
      (raw.toNat < offset.toNat → correctedValue m raw offset = 0) ∧
      0 ≤ correctedValue m raw offset ∧ correctedValue m raw offset ≤ 4095)) ∧
  (∀ (r : Ranking) (raw1 raw2 offset : Code),
    let s1 := correctedValue .drumShunt raw1 offset
    let s2 := correctedValue .drumShunt raw2 offset
    let i := rebuildCurrents r s1 s2
    i.get r.maxPhase = s1 ∧ i.get r.midPhase = s2 - s1 ∧ i.get r.minPhase = -s2 ∧
    (∀ x, CurrentInRange (i.get x) ∧ clampCurrent (i.get x) = i.get x) ∧ i.a + i.b + i.c = 0)

/-- The currents, runs, readings and lost-conversion counters keep their ranges through every step (R59, R66, R70). -/
def Obligations.ReconstructorStaysInRange : Prop :=
  ∀ s t : State, ReconstructorInRange s → step s = .next t → ReconstructorInRange t

/-- DRUM_PERIOD_START closes the entry of the period ending (R71, R73 to R78, R97), of a drum in RUN and of one that
entered SAFE at this tick. Two codes make it FRESH: its clamped
currents are the last fresh ones, the held run is 0, and the overcurrent run counts it when it is over; at 3 a drum
in RUN with no stop pending is in SAFE. Anything less makes it HELD, which keeps the currents and the overcurrent run.
It closes the house entry too, whose HOUSE record joins (R84). -/
def Obligations.PeriodStartClosesEntry : Prop :=
  (∀ (permit : Bool) (o : PeriodOrder) (s : State) (e : PeriodEntry), DrumKept s → drumStartDue s = true →
    s.recon.periodEntry = some e → s.drum.state = .run ∨ s.drum.state = .safe →
    ∃ t, exec (.drumPeriodStart permit o) s = .next t ∧
      (∀ raw1 v1 raw2 v2, e.window1 = .code raw1 v1 → e.window2 = .code raw2 v2 →
        let i := rebuildCurrents e.plan.ranking v1 v2
        let trip := (inputRow .drumShunt s).trip.toNat
        let tripping := (trip ≠ 0 ∧ (trip < i.a.natAbs ∨ trip < i.b.natAbs ∨ trip < i.c.natAbs)) ∨
          raw1 = 0 ∨ raw1 = 4095 ∨ raw2 = 0 ∨ raw2 = 4095
        t.recon.lastFresh = i.map clampCurrent ∧ t.recon.heldRun = 0 ∧
        (¬tripping → t.recon.overRun = 0) ∧
        (tripping → t.recon.overRun = min (s.recon.overRun + 1) 3 ∧
          (2 ≤ s.recon.overRun → s.drum.stopPending = none → t.drum.state = .safe))) ∧
      ((∀ raw v, e.window1 ≠ .code raw v) ∨ (∀ raw v, e.window2 ≠ .code raw v) →
        t.recon.lastFresh = s.recon.lastFresh ∧ t.recon.overRun = s.recon.overRun ∧
        t.recon.heldRun = min (s.recon.heldRun + 1) 16)) ∧
  (∀ (permit : Bool) (o : PeriodOrder) (s : State) (e : HouseEntry), drumStartDue s = true →
    s.recon.houseEntry = some e → s.rq.records.length ≤ 16 →
    let present := fun w : HouseSlot => match w with
      | .value v => some v
      | _ => none
    ∃ t, exec (.drumPeriodStart permit o) s = .next t ∧
      Record.house ⟨e.period, present e.bus, present e.temp, present e.aux⟩ ∈ t.rq.records)

/-- The close of an entry writes its DRUM record when the report flag is set and the divider divides the period number
(R75, R78, R81, R82): the record carries the entry's number, bus code and plan flags and the currents that stand after
the close; the 16th HELD period in a row adds DRUM_BLIND after it, stamped as log 15 says. -/
def Obligations.CloseWritesDrumRecord : Prop :=
  ∀ (s : State) (e : PeriodEntry), s.rq.records.length + 2 ≤ 32 →
    let t := closePeriod e s
    let fresh := match e.window1, e.window2 with
      | .code _ _, .code _ _ => true
      | _, _ => false
    let record : DrumRecord :=
      { period := e.period
        currents := t.recon.lastFresh
        bus := match e.bus with
          | .value v => some v
          | _ => none
        fresh := fresh
        short1 := decide (e.window1 = .notRequested)
        short2 := decide (e.window2 = .notRequested)
        lost1 := match e.window1 with
          | .lost _ => true
          | .awaited => true
          | _ => false
        lost2 := match e.window2 with
          | .lost _ => true
          | .awaited => true
          | _ => false
        shift1 := e.plan.shift1
        shift2 := e.plan.shift2
        trimmed := e.plan.trimmed
        busHigh := s.recon.busHighActive
        dry := s.drum.dry }
    let records := if s.drum.report = true ∧ e.period.toNat % s.setup.divider = 0 then [Record.drum record] else []
    let blind :=
      if fresh = false ∧ s.recon.heldRun = 15 then
        [Record.notice (.drumBlind e.period) (stampPeriod s) (stampOffset s)]
      else []
    t.rq.records = s.rq.records ++ records ++ blind

/-- The offset calibrations (R63, R85 to R87, R133, R134). In OFFSET, the code of the calibration period's request joins
the sum and the count, whatever the offset in the row, and before the 64th nothing else changes but the converter and
the open entries it is filed in. At the 64th the rounded mean, if it lies in 1848..2248, is written into the row and
OFFSET_DONE joins; then the drum is READY with its STATE notice, and the pump enters ALIGN, or SAFE with cause PERMIT
without a permit or dry run. Otherwise SAFE with cause OFFSET_RANGE. The drum's 257th period start in OFFSET is SAFE
with cause OFFSET_RANGE too, and every one before counts its period (the pump's: see PUMP_PERIOD_START). -/
def Obligations.DrumCalibrationSamples : Prop :=
  (∀ (code : Code) (first : Motor) (s : State) (c : Conversion), s.sched.converter = some c →
    reached (c.start + 64) s.time.tick = true → c.request.window = 1 →
    let value := correctedValue c.request.measurand code (inputRow c.request.measurand s).offset
    let out : ConversionOutcome :=
      ⟨c.request.owner, c.request.measurand, c.request.period, c.request.window, .code code value c.start c.startStep⟩
    let write := fun (m : Measurand) (offset : Nat) =>
      { s.sched with
        converter := none
        table := s.sched.table.set m.index { inputRow m s with offset := BitVec.ofNat 12 offset } }
    (c.request.owner = .drum → s.drum.state = .offset → s.drum.calib.period = some c.request.period →
      let sum := s.drum.calib.sum + code.toNat
      let offset := (sum + 32) / 64
      let u : State :=
        { s with
          sched := { s.sched with converter := none }
          recon :=
            { s.recon with
              periodEntry := s.recon.periodEntry.map (PeriodEntry.file out)
              houseEntry := s.recon.houseEntry.map (HouseEntry.file out) }
          drum := { s.drum with calib := { s.drum.calib with sum := sum, codes := s.drum.calib.codes + 1 } } }
      (s.drum.calib.codes + 1 ≠ 64 → exec (.conversionDone code first) s = .next u) ∧
      (s.drum.calib.codes + 1 = 64 → ¬Within 1848 2248 offset →
        exec (.conversionDone code first) s = .next (enterDrumSafe .offsetRange u)) ∧
      (s.drum.calib.codes + 1 = 64 → Within 1848 2248 offset → (inputRow .drumShunt s).source = .calibrate →
        exec (.conversionDone code first) s = .next
          (joinNotice (.drumState .ready)
            (joinNotice (.offsetDone .drum offset)
              { u with
                sched := write .drumShunt offset
                drum := { u.drum with state := .ready, stopPending := none }
                planner := { s.planner with inForce := none }
                drumGates := s.drumGates.map floated })))) ∧
    (c.request.owner = .pump → s.pump.state = .offset → s.pump.calib.period = some c.request.period →
      let sum := s.pump.calib.sum + code.toNat
      let offset := (sum + 32) / 64
      let u : State :=
        { s with
          sched := { s.sched with converter := none }
          pump := { s.pump with calib := { s.pump.calib with sum := sum, codes := s.pump.calib.codes + 1 } } }
      let done := joinNotice (.offsetDone .pump offset) { u with sched := write .pumpShunt offset }
      (s.pump.calib.codes + 1 ≠ 64 → exec (.conversionDone code first) s = .next u) ∧
      (s.pump.calib.codes + 1 = 64 → ¬Within 1848 2248 offset →
        exec (.conversionDone code first) s = .next (enterPumpSafe .offsetRange u)) ∧
      (s.pump.calib.codes + 1 = 64 → Within 1848 2248 offset → (inputRow .pumpShunt s).source = .calibrate →
        (s.input.permit = false ∧ s.pump.dry = false →
          exec (.conversionDone code first) s = .next (enterPumpSafe .permit done)) ∧
        (s.input.permit = true ∨ s.pump.dry = true →
          exec (.conversionDone code first) s = .next (enterAlign done) ∧ (enterAlign done).pump.state = .align ∧
          (enterAlign done).pump.alignEntry = some s.time.tick ∧
          (enterAlign done).comm.stepIndex = s.pump.profile.startIndex)))) ∧
  (∀ (permit : Bool) (o : PeriodOrder) (s : State), drumStartDue s = true → s.drum.state = .offset →
    ∃ t, exec (.drumPeriodStart permit o) s = .next t ∧ t.sched.table = s.sched.table ∧
      (s.drum.calib.periods ≠ 256 →
        t.drum =
          { s.drum with
            calib := { s.drum.calib with periods := s.drum.calib.periods + 1, period := some (s.drumCar.period + 1) } }) ∧
      (s.drum.calib.periods = 256 →
        t.drum.state = .safe ∧ t.drum.calib = s.drum.calib ∧ ∃ r, t.drum.cause = some r ∧ r.first = .offsetRange))

/-! ### The drum's states -/

/-- DRUM_PERIOD_START at the end of a period (R3, R8, R17, R18, R40, R71, R75, R93 to R95, R97, R140, R141): the carrier
begins the next period with the latched H, PERMIT is sampled into a history of three, and the clock, the pump carrier,
the SETUP store, the tables and, with the permit ACTIVE throughout, the pump are as they were. With the permit ACTIVE at
this sample too, a drum in READY with a prepared plan runs it from here, and a stop pending takes a drum out of RUN.
Without a permit or dry run a drum in READY with a prepared plan is in SAFE with cause PERMIT.
A change of the validated permit to INACTIVE turns every high side off. It takes a drum in RUN and a running pump to SAFE
with cause PERMIT, but in dry run, adds PERMIT to the further causes in SAFE, and leaves the other states. Where the
drum's change falls with a stop or a third close over the trip, it is stated for every order that takes it first, the one
between the plan application and an OVERCURRENT among them.
A change to ACTIVE leaves both state controls, but that a READY drum's check may find it in either order; it releases a
commanded high side, to turn on DT later at the earliest (R14). -/
def Obligations.DrumPeriodStartBeginsPeriod : Prop :=
  let sampled := fun (permit : Bool) (s : State) =>
    (s.input.history ++ [permit]).drop (s.input.history.length + 1 - 3)
  let byPermit := some (CauseRecord.mk .permit ⟨false, false, false⟩)
  let further := fun r : CauseRecord => { r with further := { r.further with permit := true } }
  (∀ (permit : Bool) (o : PeriodOrder) (s : State), drumStartDue s = true →
    ∃ t, exec (.drumPeriodStart permit o) s = .next t ∧ t.drumCar = nextDrumPeriod s ∧
      t.input.history = (s.input.history ++ [permit]).drop (s.input.history.length + 1 - 3) ∧
      (t.input.permit = if t.input.history = [true, true, true] then true
        else if t.input.history = [false, false, false] then false else s.input.permit) ∧
      t.input.faultD = s.input.faultD ∧ t.input.faultP = s.input.faultP ∧
      t.time = s.time ∧ t.pumpCar = s.pumpCar ∧ t.setup = s.setup ∧ t.sched.converter = s.sched.converter ∧
      t.sched.table = s.sched.table ∧ t.comm.table = s.comm.table ∧ t.pump.profile = s.pump.profile ∧
      (permit = true → s.input.permit = true →
        t.pump = s.pump ∧ t.comm = s.comm ∧ t.pumpGates = s.pumpGates) ∧
      (DrumKept s → permit = true → s.input.permit = true →
        (∀ p, s.drum.state = .ready → s.planner.prepared = some p →
          t.drum.state = .run ∧ t.planner.inForce = some p ∧ t.planner.prepared = none ∧
          t.recon.lastFresh = ⟨0, 0, 0⟩ ∧
          ∃ e, t.recon.periodEntry = some e ∧ e.period = s.drumCar.period + 1 ∧ e.plan = p) ∧
        (∀ p, s.drum.state = .run → s.drum.stopPending = none → s.planner.prepared = some p → s.recon.overRun < 2 →
          t.drum.state = .run ∧ t.planner.inForce = some p ∧ t.planner.prepared = none ∧
          ∃ e, t.recon.periodEntry = some e ∧ e.period = s.drumCar.period + 1 ∧ e.plan = p) ∧
        (s.drum.state = .run → s.drum.stopPending = some .coast → s.recon.overRun < 2 →
          t.drum.state = .off ∧ t.drum.stopPending = none ∧ t.planner.inForce = none ∧
          t.recon.periodEntry = none) ∧
        (s.drum.state = .run → s.drum.stopPending = some .brake → s.recon.overRun < 2 →
          t.drum.state = .brake ∧ t.drum.stopPending = none ∧ t.planner.inForce = none ∧
          t.recon.periodEntry = none)) ∧
      (∀ p, s.drum.state = .ready → s.planner.prepared = some p →
        (s.drum.dry = false → t.input.permit = false → t.drum.state = .safe ∧ t.drum.cause = byPermit) ∧
        (s.drum.dry = true → t.drum.state = .run ∧ t.planner.inForce = some p))) ∧
  (∀ (permit : Bool) (o : PeriodOrder) (s : State), drumStartDue s = true → s.input.permit = true →
    sampled permit s = [false, false, false] →
    ∃ t, exec (.drumPeriodStart permit o) s = .next t ∧ t.input.permit = false ∧
      (∀ x, (t.drumGates.get x).high = false ∧ (t.pumpGates.get x).high = false) ∧
      (s.drum.state = .run → s.drum.dry = false →
        (s.drum.stopPending = none ∨ o.permitTurn = .beforeClose ∨
          (o.permitTurn = .beforeEntry ∧ o.stopFirst = false)) →
        (s.recon.overRun < 2 ∨ o.permitTurn = .beforeClose ∨ o.permitTurn = .beforeEntry ∨
          (o.permitTurn ≠ .afterTrip ∧ o.tripFirst = false)) →
        t.drum.state = .safe ∧ t.drum.cause = byPermit ∧ t.drum.stopPending = none) ∧
      (s.drum.state = .run → s.drum.dry = true → s.drum.stopPending = none → s.recon.overRun < 2 → t.drum = s.drum) ∧
      (s.drum.state = .safe → t.drum = { s.drum with cause := s.drum.cause.map further }) ∧
      (s.drum.state = .off ∨ s.drum.state = .brake ∨ (s.drum.state = .ready ∧ s.planner.prepared = none) →
        t.drum = s.drum) ∧
      (s.drum.state = .offset → s.drum.calib.periods ≠ 256 → t.drum.state = .offset) ∧
      (s.pump.state.running = true → s.pump.dry = false →
        t.pump.state = .safe ∧ t.pump.cause = byPermit ∧ t.comm = stoppedCommutator s.comm ∧
        (GatesFollow s → t.pumpGates = s.pumpGates.map floated)) ∧
      (s.pump.state = .safe → t.pump = { s.pump with cause := s.pump.cause.map further } ∧ t.comm = s.comm) ∧
      (s.pump.state = .off ∨ s.pump.state = .offset ∨ (s.pump.state.running = true ∧ s.pump.dry = true) →
        t.pump = s.pump ∧ t.comm = s.comm)) ∧
  (∀ (permit : Bool) (o : PeriodOrder) (s : State), drumStartDue s = true → s.input.permit = false →
    sampled permit s = [true, true, true] →
    ∃ t, exec (.drumPeriodStart permit o) s = .next t ∧ t.input.permit = true ∧ t.pump = s.pump ∧ t.comm = s.comm ∧
      (∀ p, s.drum.state = .ready → s.drum.dry = false → s.planner.prepared = some p →
        (o.permitTurn ≠ .beforeClose ∧ o.permitTurn ≠ .beforeEntry → t.drum.state = .safe ∧ t.drum.cause = byPermit) ∧
        (o.permitTurn = .beforeClose ∨ o.permitTurn = .beforeEntry → t.drum.state = .run ∧ t.planner.inForce = some p)) ∧
      (s.drum.state = .off ∨ s.drum.state = .brake ∨ s.drum.state = .safe →
        t.drum = s.drum ∧ (GatesFollow s → HighCommandsDrive s → t.drumGates = s.drumGates)) ∧
      (GatesFollow s →
        t.pumpGates = s.pumpGates.map fun r =>
          if s.pump.dry = false ∧ s.input.faultP = false ∧ r.commanded = .high then
            { r with enable := laterEnable r.enable (s.time.tick + BitVec.ofNat 32 s.setup.dt) }
          else r))

/-- A drum START, by the first condition that holds (R91): BAD_STATE outside OFF, NOT_ASSIGNED without an input for
DRUM_SHUNT, NO_PERMIT without a permit or dry run, BAD_STATE under FAULT_D; otherwise the counters are 0 and the drum
goes to OFFSET from a CALIBRATE row and to READY from a FIXED one, with its STATE notice. -/
def Obligations.StartDrumByFirstCondition : Prop :=
  ∀ (s : State) (fr : FrameInProgress), Receiving s fr → s.link.state = .ready →
    let u := answered fr .ok s
    let noPermit := s.input.permit = false ∧ s.drum.dry = false
    (s.drum.state ≠ .off → exec .startDrum s = .next (answered fr .badState s)) ∧
    (s.drum.state = .off → (inputRow .drumShunt s).input = none →
      exec .startDrum s = .next (answered fr .notAssigned s)) ∧
    (s.drum.state = .off → (inputRow .drumShunt s).input.isSome = true → noPermit →
      exec .startDrum s = .next (answered fr .noPermit s)) ∧
    (s.drum.state = .off → (inputRow .drumShunt s).input.isSome = true → ¬noPermit → s.input.faultD = true →
      exec .startDrum s = .next (answered fr .badState s)) ∧
    (s.drum.state = .off → (inputRow .drumShunt s).input.isSome = true → ¬noPermit → s.input.faultD = false →
      ((inputRow .drumShunt s).source = .calibrate →
        exec .startDrum s = .next
          (joinNotice (.drumState .offset)
            { u with
              drum := { s.drum with state := .offset, stopPending := none, calib := ⟨0, 0, 0, none⟩ }
              planner := { emptiedPlanner s.planner with misses := 0 }
              recon := { s.recon with overRun := 0, heldRun := 0 }
              drumGates := s.drumGates.map floated })) ∧
      ((inputRow .drumShunt s).source = .fixed →
        exec .startDrum s = .next
          (joinNotice (.drumState .ready)
            { u with
              drum := { s.drum with state := .ready, stopPending := none }
              planner := { s.planner with misses := 0, inForce := none }
              recon := { s.recon with overRun := 0, heldRun := 0 }
              drumGates := s.drumGates.map floated })))

/-- The stops of the drum (R92, R94): OK without effect in OFF, to OFF at once from OFFSET and READY, pending in RUN,
from BRAKE to OFF for STOP_COAST and no change for STOP_BRAKE, and BAD_STATE in SAFE.
STOP_COAST and STOP_BRAKE at the pump (R126, R131, R137, R142): STOP_COAST is OK without effect in OFF, takes the
pump to OFF at once from OFFSET and the running states, cancelling what it had timed, and is BAD_STATE in SAFE;
STOP_BRAKE is BAD_ARGUMENT in every state. -/
def Obligations.StopsByState : Prop :=
  (∀ (s : State) (fr : FrameInProgress), Receiving s fr → s.link.state = .ready →
    let u := answered fr .ok s
    let off := joinNotice (.drumState .off)
      { u with
        drum := { s.drum with state := .off, stopPending := none }
        planner := emptiedPlanner s.planner
        drumGates := s.drumGates.map floated }
    (s.drum.state = .off → exec .stopCoastDrum s = .next u ∧ exec .stopBrakeDrum s = .next u) ∧
    (s.drum.state = .offset ∨ s.drum.state = .ready →
      exec .stopCoastDrum s = .next off ∧ exec .stopBrakeDrum s = .next off) ∧
    (s.drum.state = .run →
      exec .stopCoastDrum s = .next { u with drum := { s.drum with stopPending := some .coast } } ∧
      exec .stopBrakeDrum s = .next { u with drum := { s.drum with stopPending := some .brake } }) ∧
    (s.drum.state = .brake → exec .stopCoastDrum s = .next off ∧ exec .stopBrakeDrum s = .next u) ∧
    (s.drum.state = .safe →
      exec .stopCoastDrum s = .next (answered fr .badState s) ∧
      exec .stopBrakeDrum s = .next (answered fr .badState s))) ∧
  (∀ (s : State) (fr : FrameInProgress), Receiving s fr → s.link.state = .ready →
    let u := answered fr .ok s
    (s.pump.state = .off → exec .stopCoastPump s = .next u) ∧
    (s.pump.state = .offset ∨ s.pump.state = .align ∨ s.pump.state = .ramp ∨ s.pump.state = .closed →
      exec .stopCoastPump s = .next
        (joinNotice (.pumpState .off)
          { u with
            pump := stoppedPump .off s.pump
            comm := stoppedCommutator s.comm
            pumpGates := s.pumpGates.map floated })) ∧
    (s.pump.state = .safe → exec .stopCoastPump s = .next (answered fr .badState s)) ∧
    exec .stopBrakePump s = .next (answered fr .badArgument s))

/-- CLEAR of either motor (R98, R141): taken in SAFE alone, and only with the motor's FAULT line inactive and the
validated permit ACTIVE or the dry-run flag set; then the motor is OFF with an empty cause record, its phases are
commanded FLOAT and its STATE notice joins. Otherwise BAD_STATE. -/
def Obligations.ClearLeavesSafe : Prop :=
  ∀ (s : State) (fr : FrameInProgress), Receiving s fr → s.link.state = .ready →
    let u := answered fr .ok s
    (s.drum.state ≠ .safe ∨ s.input.faultD = true ∨ (s.input.permit = false ∧ s.drum.dry = false) →
      exec .clearDrum s = .next (answered fr .badState s)) ∧
    (s.drum.state = .safe → s.input.faultD = false → s.input.permit = true ∨ s.drum.dry = true →
      exec .clearDrum s = .next
        (joinNotice (.drumState .off)
          { u with
            drum := { s.drum with state := .off, stopPending := none, cause := none }
            planner := emptiedPlanner s.planner
            drumGates := s.drumGates.map floated })) ∧
    (s.pump.state ≠ .safe ∨ s.input.faultP = true ∨ (s.input.permit = false ∧ s.pump.dry = false) →
      exec .clearPump s = .next (answered fr .badState s)) ∧
    (s.pump.state = .safe → s.input.faultP = false → s.input.permit = true ∨ s.pump.dry = true →
      exec .clearPump s = .next
        (joinNotice (.pumpState .off)
          { u with
            pump := stoppedPump .off { s.pump with cause := none }
            comm := stoppedCommutator s.comm
            pumpGates := s.pumpGates.map floated }))

/-- An entry of the drum to SAFE, whatever its cause (R15, R23, R73, R96, R99, R103): the state, the cause record with
no further cause, no stop pending, no slot and no plan, no period entry but one whose period has ended and whose close
is still to come (R73, log 35), the safe action at the phases, a snapshot in an
empty slot and SNAPSHOT_LOST at a full one, SAFE_ENTRY as the newest record; and nothing of the pump, the converter, the
tables or the carriers.
An entry of the pump to SAFE likewise (R126, R131, R137, R140, R143): the state, the cause record, no
pending duty, ramp or due time, FLOAT at the phases, a snapshot in an empty slot and SNAPSHOT_LOST at a full one, and
SAFE_ENTRY as the newest record; the counters, the ring, the step index and the step current stand.
The period a stamp or a snapshot names at the tick of a period start not yet taken is the model's choice (log 15 for
the drum's, log 32 for the pump's snapshot). -/
def Obligations.EntriesToSafe : Prop :=
  (∀ (cause : Cause) (s : State),
    let t := enterDrumSafe cause s
    let snap : DrumSnapshot :=
      ⟨stampPeriod s, ⟨cause, ⟨false, false, false⟩⟩, s.recon.lastFresh, s.planner.misses, s.drum.state⟩
    t.drum =
      { s.drum with
        state := .safe
        stopPending := none
        cause := some ⟨cause, ⟨false, false, false⟩⟩
        snapshot := if s.drum.snapshot.isSome then s.drum.snapshot else some snap } ∧
    t.planner = emptiedPlanner s.planner ∧
    t.recon = { s.recon with periodEntry := if drumStartDue s then s.recon.periodEntry else none } ∧
    t.drumGates =
      (if s.setup.brake then s.drumGates.map (lowered (s.time.tick + BitVec.ofNat 32 s.setup.dt))
       else s.drumGates.map floated) ∧
    (s.drum.snapshot.isSome = true → t.link.flags.snapshotLost = true) ∧
    (s.drum.snapshot = none → t.link.flags.snapshotLost = s.link.flags.snapshotLost) ∧
    t.rq.records.getLast? = some (.notice (.safeEntry .drum cause) (stampPeriod s) (stampOffset s)) ∧
    t = { s with drumGates := t.drumGates, planner := t.planner, recon := t.recon, drum := t.drum, link := t.link, rq := t.rq }) ∧
  (∀ (cause : Cause) (s : State),
    let t := enterPumpSafe cause s
    let snap : PumpSnapshot :=
      ⟨s.pumpCar.period, ⟨cause, ⟨false, false, false⟩⟩, s.comm.stepIndex, s.pump.state, s.comm.ring.getLast?, stepMean s⟩
    t.pump =
      { stoppedPump .safe s.pump with
        cause := some ⟨cause, ⟨false, false, false⟩⟩
        snapshot := if s.pump.snapshot.isSome then s.pump.snapshot else some snap } ∧
    t.comm = stoppedCommutator s.comm ∧ t.pumpGates = s.pumpGates.map floated ∧
    (s.pump.snapshot.isSome = true → t.link.flags.snapshotLost = true) ∧
    (s.pump.snapshot = none → t.link.flags.snapshotLost = s.link.flags.snapshotLost) ∧
    t.rq.records.getLast? = some (.notice (.safeEntry .pump cause) (stampPeriod s) (stampOffset s)) ∧
    t = { s with pumpGates := t.pumpGates, comm := t.comm, pump := t.pump, link := t.link, rq := t.rq })

/-- Each motor enters SAFE from the states and for the causes of R95 and R140 alone, whatever command is taken. -/
def Obligations.SafeEntriesHaveListedCauses : Prop :=
  ∀ (c : Instr) (s t : State), DrumKept s → exec c s = .next t →
    (s.drum.state ≠ .safe → t.drum.state = .safe →
      ∃ r, t.drum.cause = some r ∧ drumCauseListed s.drum.state r.first) ∧
    (s.pump.state ≠ .safe → t.pump.state = .safe →
      ∃ r, t.pump.cause = some r ∧ pumpCauseListed s.pump.state r.first)

/-- The drum's parts agree with its state through every step (R23, R71, R73, R89, R94): a cause record in SAFE alone, a
stop pending and a plan in force in RUN alone, a slot entry and a prepared plan in READY and RUN alone, and a period
entry in RUN alone but at the tick of a drum period start still to be taken (log 35). -/
def Obligations.DrumStaysKept : Prop := ∀ s t : State, DrumKept s → step s = .next t → DrumKept t

/-! ### The pump's commutation -/

/-- While the pump is in RAMP or CLOSED, its step index changes only at a commutation, and then by one row in the
direction in force, which holds (R109, R124). -/
def Obligations.StepIndexMovesByCommutations : Prop :=
  ∀ (c : Instr) (s t : State), exec c s = .next t →
    s.pump.state = .ramp ∨ s.pump.state = .closed → t.pump.state = .ramp ∨ t.pump.state = .closed →
    t.comm.direction = s.comm.direction ∧
    (t.comm.stepIndex = s.comm.stepIndex ∨
      (t.comm.stepIndex = nextStep s.comm.direction s.comm.stepIndex ∧
        t.comm.lastCommutation = some s.time.stepTick ∧ t.comm.stepZc = none ∧ t.comm.zcRun = 0))

/-- R108: the sequence check passes exactly when every row and its cyclic successor keep exactly one of the two driven
roles and differ in polarity; the default table passes. In a table of valid rows that passes, neighbouring rows differ
in two phases: the phase that keeps its role is driven in both, and the other driven phase and the floating one change
places. -/
def Obligations.SequenceCheckWalksTheTable : Prop :=
  (∀ t : Vector CommutationRow 6, sequencePasses t = true ↔
    ∀ r : Fin 6,
      ((t[r + 1].high = t[r].high ∧ t[r + 1].low ≠ t[r].low) ∨ (t[r + 1].low = t[r].low ∧ t[r + 1].high ≠ t[r].high)) ∧
      t[r + 1].polarity ≠ t[r].polarity) ∧
  sequencePasses defaultCommutationTable = true ∧
  (∀ t : Vector CommutationRow 6, sequencePasses t = true → (∀ r : Fin 6, t[r].valid = true) →
    ∀ r : Fin 6,
      (t[r + 1].high = t[r].high ∧ t[r + 1].low = t[r].floating ∧ t[r + 1].floating = t[r].low) ∨
      (t[r + 1].low = t[r].low ∧ t[r + 1].high = t[r].floating ∧ t[r + 1].floating = t[r].high))

/-- DUE_COMMUTATION in CLOSED, once the due time has been reached (R112, R117, R120, R121, R124): the next row in the
direction in force, timed from the step's crossing, with the pattern of that row at once, the step current at 0, and
one PUMP_STEP record of kind ACCEPTED when the report flag is set. At the tick of a pump period start still to be taken
the record's pump period number and the high phase's level are the model's choices (log 32, 37). -/
def Obligations.DueCommutationMakesStep : Prop :=
  ∀ (s : State) (due : Tick), s.pump.state = .closed → s.comm.due = some due → reached due s.time.stepTick = true →
    ∃ t, exec .dueCommutation s = .next t ∧
      t.comm = commutated s.comm.stepZc (some (s.time.stepTick + BitVec.ofNat 32 (2 * (s.comm.ring.sum / 6)))) s ∧
      t.pump = { s.pump with currentSum := 0, currentCount := 0 } ∧
      (s.pump.report = false → t.rq = s.rq ∧ t.link = s.link) ∧
      (s.pump.report = true →
        t.rq.records.getLast? = some (.step
          { period := s.pumpCar.period
            stepIndex := s.comm.stepIndex
            interval := stepInterval s
            kind := .accepted
            mean := stepMean s
            count := s.pump.currentCount })) ∧
      (StoresInRange s → StepCommanded t) ∧
      t = { s with pumpGates := t.pumpGates, comm := t.comm, pump := t.pump, link := t.link, rq := t.rq }

/-- ZC_TIMEOUT in CLOSED, at the deadline of a step without a crossing (R121, R122, R124, R125). Below Kzc: a FORCED
commutation, timed from the deadline less the delay, with the ring as it was and the pattern of the new row; its
PUMP_STEP record of kind FORCED, if the report flag is set, joins, and then ZC_MISS at the first of a run. At Kzc:
ZC_MISS if this is the first, and SAFE with cause STALL, no commutation and no PUMP_STEP record. The notices' stamps
follow log 15, and at the tick of a pump period start still to be taken the pump period numbers follow log 32 and the
high phase's level log 37. -/
def Obligations.TimeoutForcesOrStalls : Prop :=
  ∀ (s : State) (deadline : Tick), s.pump.state = .closed → s.comm.stepZc = none → s.comm.deadline = some deadline →
    reached deadline s.time.stepTick = true →
    let misses := s.comm.zcMisses + 1
    let delay := s.comm.ring.sum * (240 - s.pump.profile.alpha8) / 2880
    let missed := fun u : State =>
      if s.comm.zcMisses = 0 then joinNotice (.zcMiss s.pumpCar.period s.comm.stepIndex) u else u
    let reported :=
      if s.pump.report then
        joinRecord (.step
          { period := s.pumpCar.period
            stepIndex := s.comm.stepIndex
            interval := none
            kind := .forced
            mean := stepMean s
            count := s.pump.currentCount }) s
      else s
    ∃ t, exec .zcTimeout s = .next t ∧
      t = { s with pumpGates := t.pumpGates, comm := t.comm, pump := t.pump, link := t.link, rq := t.rq } ∧
      t.comm.zcMisses = misses ∧ t.comm.ring = s.comm.ring ∧
      (misses < s.pump.profile.kzc →
        t.comm = { commutated (some (deadline - BitVec.ofNat 32 delay))
            (some (s.time.stepTick + BitVec.ofNat 32 (2 * (s.comm.ring.sum / 6)))) s with zcMisses := misses } ∧
        t.pump = { s.pump with currentSum := 0, currentCount := 0 } ∧
        (StoresInRange s → StepCommanded t) ∧ t.rq = (missed reported).rq ∧ t.link = (missed reported).link) ∧
      (s.pump.profile.kzc ≤ misses →
        t = enterPumpSafe .stall (missed { s with comm := { s.comm with zcMisses := misses } }) ∧
        t.pump.state = .safe ∧ t.pump.cause = some ⟨.stall, ⟨false, false, false⟩⟩ ∧
        t.comm = { stoppedCommutator s.comm with zcMisses := misses } ∧
        t.rq = (joinNotice (.safeEntry .pump .stall) (missed s)).rq)

/-- RAMP_COMMUTATION at the ramp commutation time (R117, R124, R125, R135, R136): a commutation of kind RAMP, with its
PUMP_STEP record if the report flag is set and the pattern of the new row; the position
stays in its row until the row has timed its repeats, moves to the next row below the ramp length, and after the last
row the pump is in SAFE with cause START_FAIL, the record standing before the SAFE_ENTRY notice (its stamp log 15). At
the tick of a pump period start still to be taken the record's pump period number follows log 32, and the high phase's
level log 37. A step without a crossing sets the stable count to 0. -/
def Obligations.RampCommutationWalksRamp : Prop :=
  ∀ (s : State) (at_ : Tick) (p : RampPosition), s.pump.state = .ramp → s.pump.rampTime = some at_ →
    reached at_ s.time.stepTick = true → s.pump.rampPosition = some p →
    let row := s.pump.ramp[p.row]
    let stable := if s.comm.stepZc.isSome then s.pump.stable else 0
    let reported :=
      if s.pump.report then
        joinRecord (.step
          { period := s.pumpCar.period
            stepIndex := s.comm.stepIndex
            interval := stepInterval s
            kind := .ramp
            mean := stepMean s
            count := s.pump.currentCount }) s
      else s
    ∃ t, exec .rampCommutation s = .next t ∧
      t = { s with pumpGates := t.pumpGates, comm := t.comm, pump := t.pump, link := t.link, rq := t.rq } ∧
      (p.repeats + 1 < row.repeats →
        t.comm = commutated s.comm.stepZc none s ∧ t.rq = reported.rq ∧ t.link = reported.link ∧
        (StoresInRange s → StepCommanded t) ∧
        t.pump =
          { s.pump with
            currentSum := 0
            currentCount := 0
            stable := stable
            rampPosition := some ⟨p.row, p.repeats + 1⟩
            rampTime := some (s.time.stepTick + BitVec.ofNat 32 row.interval) }) ∧
      (∀ next : Fin 16, row.repeats ≤ p.repeats + 1 → next.val = p.row.val + 1 → next.val < s.pump.rampLength →
        t.comm = commutated s.comm.stepZc none s ∧ t.rq = reported.rq ∧ t.link = reported.link ∧
        (StoresInRange s → StepCommanded t) ∧
        t.pump =
          { s.pump with
            currentSum := 0
            currentCount := 0
            stable := stable
            rampPosition := some ⟨next, 0⟩
            rampTime := some (s.time.stepTick + BitVec.ofNat 32 (s.pump.ramp[next]).interval) }) ∧
      (row.repeats ≤ p.repeats + 1 → 16 ≤ p.row.val + 1 ∨ s.pump.rampLength ≤ p.row.val + 1 →
        t.pump.state = .safe ∧ t.pump.cause = some ⟨.startFail, ⟨false, false, false⟩⟩ ∧
        t.pump.rampPosition = none ∧ t.pump.rampTime = none ∧
        t.comm = commutated s.comm.stepZc none s ∧ (∀ x, (t.pumpGates.get x).commanded = .float) ∧
        t.rq = (joinNotice (.safeEntry .pump .startFail) reported).rq)

/-- A floating-phase code at its delivery (R114 to R120, R123, R136). One that is not examined changes nothing. An
examined code on the old side breaks the ZC run; one on the new side moves it, the first setting the first-sample time.
The third accepts the crossing at the first sample's time, and its interval from the last ZC time joins the ring. In
CLOSED the miss counter is then 0 and the commutation is due the delay after the crossing, no deadline standing; if that
time has been reached, DUE_COMMUTATION's commutation is made at once. In RAMP an interval within a quarter of the row's
moves the stable count, any other sets it to 0, and the count that reaches Nstable takes the pump to CLOSED at the row's
duty, with its STATE notice (stamp log 15), and the crossing times the commutation as in CLOSED. -/
def Obligations.ThirdSampleAcceptsCrossing : Prop :=
  ∀ (code : Code) (first : Motor) (s : State) (c : Conversion), s.sched.converter = some c →
    reached (c.start + 64) s.time.tick = true → c.request.owner = .pump → c.request.window = 2 →
    let idle : Scheduler := { s.sched with converter := none }
    let examined := (s.pump.state = .ramp ∨ s.pump.state = .closed) ∧ s.comm.stepZc = none ∧
      (⟨c.request.period, true⟩ : DetectionMark) ∈ s.comm.marks
    let value := correctedValue c.request.measurand code (inputRow c.request.measurand s).offset
    let threshold : Int := (s.sched.busReading / 2 : Nat)
    let newSide := (polarityInForce s = .rising ∧ threshold < value) ∨ (polarityInForce s = .falling ∧ value < threshold)
    (¬examined → exec (.conversionDone code first) s = .next { s with sched := idle }) ∧
    (examined → ¬newSide → exec (.conversionDone code first) s = .next
      { s with sched := idle, comm := { s.comm with zcRun := 0, firstSample := none } }) ∧
    (examined → newSide → s.comm.zcRun = 0 → exec (.conversionDone code first) s = .next
      { s with sched := idle, comm := { s.comm with zcRun := 1, firstSample := some c.startStep } }) ∧
    (∀ z, examined → newSide → s.comm.zcRun = 1 → s.comm.firstSample = some z →
      exec (.conversionDone code first) s = .next { s with sched := idle, comm := { s.comm with zcRun := 2 } }) ∧
    (∀ z, examined → newSide → s.comm.zcRun = 2 → s.comm.firstSample = some z →
      let interval := s.comm.lastZc.map fun l => min (z - l : Tick).toNat 16777215
      let ring := match interval with
        | some i => (s.comm.ring ++ [i]).drop (s.comm.ring.length + 1 - 6)
        | none => s.comm.ring
      let accepted : Commutator := { s.comm with stepZc := some z, firstSample := none, zcRun := 3, ring := ring }
      let due := z + BitVec.ofNat 32 (ring.sum * (240 - s.pump.profile.alpha8) / 2880)
      let timed : Commutator := { accepted with due := some due, deadline := none, zcMisses := 0 }
      let answers := fun u : State =>
        (reached due s.time.stepTick = false → exec (.conversionDone code first) s = .next u) ∧
        (reached due s.time.stepTick = true → exec (.conversionDone code first) s = exec .dueCommutation u)
      (s.pump.state = .closed → answers { s with sched := idle, comm := timed }) ∧
      (∀ p, s.pump.state = .ramp → s.pump.rampPosition = some p →
        let row := s.pump.ramp[p.row]
        let near := ∃ i, interval = some i ∧ i ≤ row.interval + row.interval / 4 ∧ row.interval ≤ i + row.interval / 4
        (¬near → exec (.conversionDone code first) s = .next
          { s with sched := idle, comm := accepted, pump := { s.pump with stable := 0 } }) ∧
        (near → s.pump.stable + 1 < s.pump.profile.nstable → exec (.conversionDone code first) s = .next
          { s with sched := idle, comm := accepted, pump := { s.pump with stable := s.pump.stable + 1 } }) ∧
        (near → s.pump.profile.nstable ≤ s.pump.stable + 1 → answers
          (joinNotice (.pumpState .closed)
            { s with
              sched := idle
              comm := timed
              pump :=
                { s.pump with
                  stable := s.pump.stable + 1
                  state := .closed
                  rampPosition := none
                  rampTime := none
                  dutyInForce := row.duty } }))))

/-- A current sample of a running pump (R138, R139): its corrected value joins the sum and the count until the count
stands at 65535; a sample at code 4095 or above a trip that is not 0 is over, the third in a row takes the pump to SAFE
with cause OVERCURRENT, and one that is not over sets the run to 0. -/
def Obligations.CurrentSampleCountsAndTrips : Prop :=
  ∀ (code : Code) (first : Motor) (s : State) (c : Conversion), s.sched.converter = some c →
    reached (c.start + 64) s.time.tick = true → c.request.owner = .pump → c.request.window = 1 →
    s.pump.state = .align ∨ s.pump.state = .ramp ∨ s.pump.state = .closed →
    (∀ entry, s.pump.alignEntry = some entry → reached entry c.start = true) →
    let value := correctedValue c.request.measurand code (inputRow c.request.measurand s).offset
    let trip := (inputRow .pumpShunt s).trip.toNat
    let tripping := code = 4095 ∨ (trip ≠ 0 ∧ (trip : Int) < value)
    let summed : PumpControl :=
      if s.pump.currentCount < 65535 then
        { s.pump with currentSum := s.pump.currentSum + value, currentCount := s.pump.currentCount + 1 }
      else s.pump
    let idle : Scheduler := { s.sched with converter := none }
    (¬tripping → exec (.conversionDone code first) s = .next { s with sched := idle, pump := { summed with overRun := 0 } }) ∧
    (tripping → s.pump.overRun < 2 →
      exec (.conversionDone code first) s = .next
        { s with sched := idle, pump := { summed with overRun := s.pump.overRun + 1 } }) ∧
    (tripping → 2 ≤ s.pump.overRun →
      ∃ t, exec (.conversionDone code first) s = .next t ∧ t.pump.state = .safe ∧
        t.pump.cause = some ⟨.overcurrent, ⟨false, false, false⟩⟩ ∧ t.pump.overRun = 3 ∧
        t.pump.currentSum = summed.currentSum ∧ t.pump.currentCount = summed.currentCount ∧
        t.comm = stoppedCommutator s.comm ∧ t.pumpGates = s.pumpGates.map floated)

/-- PUMP_PERIOD_START at the end of a pump period (R4, R9, R110, R113, R131, R133, R134, R137): the carrier begins the
next period with the pending Hp; outside the running states Tp is 0 and the marks are emptied; in OFFSET a period of
the calibration is counted, and the 257th start is SAFE with cause OFFSET_RANGE; in a running state Tp is the
trimmed on-time of the state's duty, ALIGN counts its period, CLOSED takes the pending duty first, and RAMP and CLOSED
mark the period, EXAMINED when the blanking count stands at 0. An EXAMINED period whose window is too narrow for a request
sets the ZC run to 0 and the first-sample time to none (R115), but in a step whose crossing is accepted (deduced, log 14);
otherwise, with no request queued, both stand. -/
def Obligations.PumpPeriodStartFixesOnTime : Prop :=
  ∀ (schedulerFirst : Bool) (s : State), pumpStartDue s = true →
    ∃ t, exec (.pumpPeriodStart schedulerFirst) s = .next t ∧ t.pumpCar = nextPumpPeriod s ∧
      t = { s with pumpCar := t.pumpCar, pumpGates := t.pumpGates, sched := t.sched, comm := t.comm, pump := t.pump, link := t.link, rq := t.rq } ∧
      t.sched.converter = s.sched.converter ∧ t.sched.table = s.sched.table ∧
      (s.pump.state = .off ∨ s.pump.state = .safe →
        t.comm = { s.comm with onTime := 0, marks := [], blanking := 0 } ∧ t.sched = s.sched ∧
        t.pumpGates = s.pumpGates ∧ t.rq = s.rq ∧ t.link = s.link) ∧
      (s.pump.state = .offset →
        (s.pump.calib.periods ≠ 256 →
          t.comm = { s.comm with onTime := 0, marks := [], blanking := 0 } ∧ t.pump.state = .offset ∧
          t.pump.calib =
            { s.pump.calib with periods := s.pump.calib.periods + 1, period := some (s.pumpCar.period + 1) } ∧
          t.pumpGates = s.pumpGates ∧ t.rq = s.rq ∧ t.link = s.link) ∧
        (s.pump.calib.periods = 256 →
          t.comm = { stoppedCommutator s.comm with onTime := 0, marks := [], blanking := 0 } ∧ t.pump.state = .safe ∧
          t.pump.cause = some ⟨.offsetRange, ⟨false, false, false⟩⟩ ∧ t.pump.calib = s.pump.calib ∧
          t.pumpGates = s.pumpGates.map floated)) ∧
      (let half := s.pumpCar.pendingHalf
       let onTime := fun d : Word => trimPulse half s.setup.dt (d.toNat * half / 65536)
       (s.pump.state = .align →
         t.comm.onTime = onTime s.pump.profile.alignDuty ∧ t.comm.marks = [] ∧
         t.pump.alignCount = min (s.pump.alignCount + 1) 65535 ∧ t.pump.state = .align) ∧
       (∀ p, s.pump.state = .ramp → s.pump.rampPosition = some p →
         t.comm.onTime = onTime (s.pump.ramp[p.row]).duty) ∧
       (∀ d, s.pump.state = .closed → s.pump.pendingDuty = some d →
         t.comm.onTime = onTime d ∧ t.pump.dutyInForce = d ∧ t.pump.pendingDuty = none) ∧
       (s.pump.state = .closed → s.pump.pendingDuty = none →
         t.comm.onTime = onTime s.pump.dutyInForce ∧ t.pump.dutyInForce = s.pump.dutyInForce) ∧
       (s.pump.state = .ramp ∨ s.pump.state = .closed →
         t.comm.marks.getLast? = some ⟨s.pumpCar.period + 1, decide (s.comm.blanking = 0)⟩ ∧
         t.comm.blanking = s.comm.blanking - 1 ∧ t.pump.state = s.pump.state ∧
         (let narrow := 2 * t.comm.onTime < s.setup.dt + s.setup.tsettle + 16
          (s.comm.blanking = 0 → narrow → s.comm.stepZc = none → t.comm.zcRun = 0 ∧ t.comm.firstSample = none) ∧
          (s.comm.blanking ≠ 0 ∨ ¬narrow ∨ s.comm.stepZc.isSome = true → s.sched.queue = [] →
            t.comm.zcRun = s.comm.zcRun ∧ t.comm.firstSample = s.comm.firstSample))) ∧
       (s.pump.state.running = true → t.rq = s.rq ∧ t.link = s.link ∧ (StoresInRange s → StepCommanded t)))

/-- PUMP_PEAK at the peak (R4, R113, R134, R135): with the align count at the align periods, ALIGN gives way to RAMP at
row 0, with B period starts to blank, the step current at 0 and the STATE notice; otherwise nothing else changes. -/
def Obligations.PumpPeakEndsAlign : Prop :=
  ∀ s : State, s.time.running = true → s.pumpCar.peakTaken = false → s.pumpCar.half ≤ s.pumpCar.pos →
    let u : State := { s with pumpCar := { s.pumpCar with peakTaken := true } }
    (s.pump.state ≠ .align ∨ s.pump.alignCount < s.pump.profile.alignPeriods → exec .pumpPeak s = .next u) ∧
    (s.pump.state = .align → s.pump.profile.alignPeriods ≤ s.pump.alignCount →
      exec .pumpPeak s = .next
        (joinNotice (.pumpState .ramp)
          { u with
            comm := { s.comm with blanking := s.pump.profile.blanking }
            pump :=
              { s.pump with
                state := .ramp
                rampPosition := some ⟨0, 0⟩
                rampTime := some (s.time.stepTick + BitVec.ofNat 32 s.pump.ramp[0].interval)
                currentSum := 0
                currentCount := 0 } }))

/-! ### The pump's states -/

/-- A pump START, by the first condition that holds (R132): BAD_STATE outside OFF, NOT_ASSIGNED without one of its five
inputs, TABLE_INVALID for a table that fails the check, NO_PERMIT, BAD_STATE under FAULT_P. Otherwise the counters are
0 and the ring is empty, and the pump goes to OFFSET from a CALIBRATE row, and from a FIXED row to ALIGN at the start
index, with that row's pattern (R112, R134). That the period in progress has then no on-time, and that the run, the first
sample and the step's crossing are cleared, is deduced (log 12 and 13); the notice's stamp follows log 15. -/
def Obligations.StartPumpByFirstCondition : Prop :=
  ∀ (s : State) (fr : FrameInProgress), Receiving s fr → s.link.state = .ready →
    let u := answered fr .ok s
    let noPermit := s.input.permit = false ∧ s.pump.dry = false
    let missing := (inputRow .pumpShunt s).input = none ∨ (inputRow .bus s).input = none ∨
      (inputRow .pumpVa s).input = none ∨ (inputRow .pumpVb s).input = none ∨ (inputRow .pumpVc s).input = none
    (s.pump.state ≠ .off → exec .startPump s = .next (answered fr .badState s)) ∧
    (s.pump.state = .off → missing → exec .startPump s = .next (answered fr .notAssigned s)) ∧
    (s.pump.state = .off → ¬missing → sequencePasses s.comm.table = false →
      exec .startPump s = .next (answered fr .tableInvalid s)) ∧
    (s.pump.state = .off → ¬missing → sequencePasses s.comm.table = true → noPermit →
      exec .startPump s = .next (answered fr .noPermit s)) ∧
    (s.pump.state = .off → ¬missing → sequencePasses s.comm.table = true → ¬noPermit → s.input.faultP = true →
      exec .startPump s = .next (answered fr .badState s)) ∧
    (s.pump.state = .off → ¬missing → sequencePasses s.comm.table = true → ¬noPermit → s.input.faultP = false →
      ((inputRow .pumpShunt s).source = .calibrate →
        exec .startPump s = .next
          (joinNotice (.pumpState .offset)
            { u with
              comm := { s.comm with zcMisses := 0, ring := [] }
              pump := { s.pump with state := .offset, overRun := 0, stable := 0, calib := ⟨0, 0, 0, none⟩ }
              pumpGates := s.pumpGates.map floated })) ∧
      ((inputRow .pumpShunt s).source = .fixed →
        ∃ t, exec .startPump s = .next t ∧
          t.comm =
            { s.comm with
              zcMisses := 0
              ring := []
              stepIndex := s.pump.profile.startIndex
              lastZc := none
              zcRun := 0
              firstSample := none
              stepZc := none
              onTime := 0 } ∧
          t.pump =
            { s.pump with
              state := .align
              overRun := 0
              stable := 0
              alignCount := 0
              currentSum := 0
              currentCount := 0
              alignEntry := some s.time.tick
              alignStarts := 0 } ∧
          (StoresInRange s → StepCommanded t) ∧
          t.rq.records.getLast? = some (.notice (.pumpState .align) (stampPeriod s) (stampOffset s)) ∧
          t = { u with pumpGates := t.pumpGates, comm := t.comm, pump := t.pump, link := t.link, rq := t.rq }))

/-- PUMP and RATE frames in READY (R7, R137). A PUMP frame that names a direction is taken in OFF, and in OFFSET and
the running states when the direction is the one in force; its duty waits as the pending duty. A RATE field that is not
0 becomes, clamped, its carrier's pending half-period. -/
def Obligations.PumpAndRateFrames : Prop :=
  ∀ (s : State) (fr : FrameInProgress), Receiving s fr → s.link.state = .ready →
    (∀ (field : BitVec 2) (duty : Word),
      (2 ≤ field.toNat → exec (.pump field duty) s = .next (answered fr .badArgument s)) ∧
      (∀ d, directionOf field = some d →
        (s.pump.state = .safe → exec (.pump field duty) s = .next (answered fr .badState s)) ∧
        (s.pump.state = .off → exec (.pump field duty) s = .next
          { answered fr .ok s with
            comm := { s.comm with direction := d }
            pump := { s.pump with pendingDuty := some duty } }) ∧
        (s.pump.state ≠ .off → s.pump.state ≠ .safe → d ≠ s.comm.direction →
          exec (.pump field duty) s = .next (answered fr .badState s)) ∧
        (s.pump.state ≠ .off → s.pump.state ≠ .safe → d = s.comm.direction →
          exec (.pump field duty) s = .next
            { answered fr .ok s with pump := { s.pump with pendingDuty := some duty } }))) ∧
    (∀ h hp : Word,
      let clamped := fun n : Nat => max 1000 (min 8000 n)
      let out := fun w : Word => w ≠ 0 ∧ (w.toNat < 1000 ∨ 8000 < w.toNat)
      let u := fun r => { answered fr r s with
        drumCar := { s.drumCar with pendingHalf := if h = 0 then s.drumCar.pendingHalf else clamped h.toNat }
        pumpCar := { s.pumpCar with pendingHalf := if hp = 0 then s.pumpCar.pendingHalf else clamped hp.toNat } }
      (out h ∨ out hp → exec (.rate h hp) s = .next (u .okClamped)) ∧
      (¬out h → ¬out hp → exec (.rate h hp) s = .next (u .ok)))

/-- The pump's parts agree with its state through every step (R113 to R126, R128, R135 to R139): above all, in CLOSED
the step-interval ring holds six intervals, none above 16 777 215. -/
def Obligations.PumpStaysKept : Prop := ∀ s t : State, StoresInRange s → PumpKept s → step s = .next t → PumpKept t

/-! ### Frames at the link -/

/-- FRAME_BEGIN with RESET_N and LSEL high (R145, R159, R160, R162): the upstream frame is fixed with its check, its
header showing the oldest record's kind, the last result, how many others wait, the gap mark and the summary; LDO
carries its first bit, the bit count and the receive shift register are 0, the oldest record is in transit, and nothing else changes. -/
def Obligations.FrameBeginFixesUpstream : Prop :=
  ∀ s : State, s.link.resetN = true → s.link.selected = false →
    ∃ up : Frame, up.checks = true ∧
      exec .frameBegin s = .next
        { s with
          link :=
            { s.link with
              bitCount := 0
              shift := 0
              frame := some ⟨up, s.rq.gap, false⟩
              ldo := up.w0.getLsbD 15
              selected := true }
          rq := { s.rq with inTransit := !s.rq.records.isEmpty } } ∧
      up.w0.extractLsb' 8 4 = s.link.result.code ∧ up.w0.getLsbD 1 = s.rq.gap ∧
      up.w0.getLsbD 0 = (s.link.flags.any || decide (s.drum.state = .safe) || decide (s.pump.state = .safe)) ∧
      (s.rq.records.length ≤ 32 → (up.w0.extractLsb' 2 6).toNat = s.rq.records.length - 1) ∧
      (s.rq.records = [] → up.w0.extractLsb' 12 4 = 0 ∧ up.w1 = 0 ∧ up.w2 = 0 ∧ up.w3 = 0 ∧ up.w4 = 0 ∧ up.w5 = 0 ∧ up.w6 = 0) ∧
      (∀ r rest, s.rq.records = r :: rest → up.w0.extractLsb' 12 4 = r.kindCode ∧
        (⟨up.w1, up.w2, up.w3, up.w4, up.w5, up.w6⟩ : Payload) = r.words)

/-- Frames the part does not take (R156): with RESET_N low, or with LSEL low and no frame under way since RESET_N
returned high, a completion only leaves LSEL high. With LSEL high before it, a completion command stands for the whole
frame, from its falling edge on (the model's choice of log 7). -/
def Obligations.FramesNotTakenAndFramesWhole : Prop :=
  ∀ (c : Instr) (s : State), completesFrame c = true →
    (s.link.resetN = false ∨ (s.link.frame = none ∧ s.link.selected = true) →
      exec c s = .next { s with link := { s.link with selected := false } }) ∧
    (s.link.resetN = true → s.link.frame = none → s.link.selected = false →
      ∃ u, exec .frameBegin s = .next u ∧ exec c s = exec c u)

/-- In AWAIT_SETUP every DUTY, PUMP, RATE, TABLE and CONTROL frame is refused with NOT_SET_UP and reaches no block
(R151, R153).
Frames that have no effect but their result (R151, R164): FILL is OK, an unknown kind UNKNOWN_KIND and an unknown
page BAD_ARGUMENT in either link state, an unknown control code and an unknown table id BAD_ARGUMENT in READY. -/
def Obligations.FramesAnsweredOnly : Prop :=
  (∀ (c : Instr) (s : State) (fr : FrameInProgress), Receiving s fr → s.link.state = .awaitSetup → needsReady c = true →
    exec c s = .next (answered fr .notSetUp s)) ∧
  (∀ (s : State) (fr : FrameInProgress), Receiving s fr →
    exec .fill s = .next (answered fr .ok s) ∧
    (∀ kind, exec (.unknownKind kind) s = .next (answered fr .unknownKind s)) ∧
    (∀ page, exec (.queryUnknownPage page) s = .next (answered fr .badArgument s)) ∧
    (s.link.state = .ready → ∀ code, exec (.controlUnknownCode code) s = .next (answered fr .badArgument s)) ∧
    (s.link.state = .ready → ∀ id, exec (.tableUnknownId id) s = .next (answered fr .badArgument s)))

/-- A short frame and a CHECK_ERROR (R146 to R148, R153, R159). A short frame is a LENGTH_ERROR and keeps its record at
the head of the queue. A CHECK_ERROR counts up to 65535, and the count that reaches the threshold sets LINK_DEGRADED and
lets its notice join. Neither reaches another block. -/
def Obligations.DamagedFramesAreCounted : Prop :=
  ∀ (s : State) (fr : FrameInProgress), Receiving s fr →
    (∀ bits : Nat, exec (.shortFrame bits) s = .next
      { s with
        rq := { s.rq with inTransit := false }
        link :=
          { linkAfter .lengthError s with
            bitCount := bits
            lengthErrors := min (s.link.lengthErrors + 1) 65535
            flags := { s.link.flags with lengthErr := true } } }) ∧
    (let n := min (s.link.checkErrors + 1) 65535
     let u : State :=
       { answered fr .checkError s with
         link := { linkAfter .checkError s with checkErrors := n, flags := { s.link.flags with checkErr := true } } }
     (n ≠ s.setup.threshold ∨ s.link.checkErrors = 65535 → exec .checkError s = .next u) ∧
     (n = s.setup.threshold → s.link.checkErrors < 65535 →
       exec .checkError s = .next
         (joinNotice (.linkDegraded s.setup.threshold)
           { u with link := { u.link with flags := { u.link.flags with linkDegraded := true } } })))

/-- BREAK_FRAME (R149, R150): the result is BREAK and the run counts up to 2; the second in a row, and no other, is a
link break, which sets BREAK and lets LINK_BREAK join, before the SAFE_ENTRY notice of each motor it takes to SAFE,
which join in the command's order (stamps log 15). A link break takes the running motors to SAFE with cause
LINK_BREAK, adds it to the further causes of a motor in SAFE, and leaves a motor in any other state as it is. -/
def Obligations.SecondBreakFrameIsLinkBreak : Prop :=
  ∀ (first : Motor) (s : State) (fr : FrameInProgress), Receiving s fr →
    let u := fun run : Nat =>
      { answered fr .broke s with link := { linkAfter .broke s with breakRun := run } }
    let onDrum : List Notice :=
      if s.drum.state = .run ∨ s.drum.state = .brake then [.safeEntry .drum .linkBreak] else []
    let onPump : List Notice := if s.pump.state.running then [.safeEntry .pump .linkBreak] else []
    let notices := .linkBreak :: (if first = .drum then onDrum ++ onPump else onPump ++ onDrum)
    (s.link.breakRun ≠ 1 → exec (.breakFrame first) s = .next (u (min (s.link.breakRun + 1) 2))) ∧
    (s.link.breakRun = 1 →
      ∃ t, exec (.breakFrame first) s = .next t ∧ t.link.flags.broke = true ∧ t.link.breakRun = 2 ∧
        t.link.result = .broke ∧ t.link.state = s.link.state ∧ t.setup = s.setup ∧ t.time = s.time ∧
        t.drumCar = s.drumCar ∧ t.pumpCar = s.pumpCar ∧ t.sched = s.sched ∧
        t.rq = (notices.foldl (fun w n => joinNotice n w) (u 2)).rq ∧
        (s.drum.state = .run ∨ s.drum.state = .brake →
          t.drum.state = .safe ∧ t.drum.cause = some ⟨.linkBreak, ⟨false, false, false⟩⟩) ∧
        (s.drum.state = .safe →
          t.drum = { s.drum with
            cause := s.drum.cause.map fun r => { r with further := { r.further with linkBreak := true } } }) ∧
        (s.drum.state = .off ∨ s.drum.state = .offset ∨ s.drum.state = .ready → t.drum = s.drum) ∧
        (s.pump.state.running = true →
          t.pump.state = .safe ∧ t.pump.cause = some ⟨.linkBreak, ⟨false, false, false⟩⟩) ∧
        (s.pump.state = .safe →
          t.pump = { s.pump with
            cause := s.pump.cause.map fun r => { r with further := { r.further with linkBreak := true } } }) ∧
        (s.pump.state = .off ∨ s.pump.state = .offset → t.pump = s.pump) ∧
        (s.drum.state = .off ∧ s.pump.state = .off →
          t = joinNotice .linkBreak
            { u 2 with link := { (u 2).link with flags := { s.link.flags with broke := true } } }))

/-- An accepted SETUP (R1, R5, R6, R17, R28, R83, R148, R152): in AWAIT_SETUP, or in READY with both motors OFF, the
clamped fields are the SETUP store, the Timebase runs on with its counts as they were, both carriers stand at the start
of period 0 with the SETUP half-periods, the link is READY, PERMIT is sampled, and the result says whether a field was
clamped. In READY with a motor out of OFF it is BUSY. That the pump period start it makes empties the detection marks,
sets the blanking count to 0 and counts for the align entry time is the model's deduction from R5, R113 and R138,
against the words of R105 and R128 (log 31). -/
def Obligations.SetupFrameStartsCarriers : Prop :=
  ∀ (f : SetupFields) (permit : Bool) (s : State) (fr : FrameInProgress), Receiving s fr →
    let clamp := fun lo hi n : Nat => max lo (min hi n)
    let store : SetupStore :=
      ⟨clamp 1000 8000 f.h.toNat, clamp 1000 8000 f.hp.toNat, clamp 16 255 f.dt.toNat, clamp 8 500 f.tsettle.toNat,
        clamp 64 1000 f.lp.toNat, clamp 1 15 f.kmiss.toNat, f.brake, clamp 1 16 f.divider.toNat,
        clamp 1 255 f.threshold.toNat⟩
    let same := store.h = f.h.toNat ∧ store.hp = f.hp.toNat ∧ store.dt = f.dt.toNat ∧ store.tsettle = f.tsettle.toNat ∧
      store.lp = f.lp.toNat ∧ store.kmiss = f.kmiss.toNat ∧ store.divider = f.divider.toNat ∧
      store.threshold = f.threshold.toNat
    (s.link.state = .ready → s.drum.state ≠ .off ∨ s.pump.state ≠ .off →
      exec (.setup f permit) s = .next (answered fr .busy s)) ∧
    (s.drum.state = .off → s.pump.state = .off →
      ∃ t, exec (.setup f permit) s = .next t ∧ t.setup = store ∧ t.time = { s.time with running := true } ∧
        t.drumCar = ⟨0, store.h, store.h, store.h, 0, false⟩ ∧ t.pumpCar = ⟨0, store.hp, store.hp, 0, false⟩ ∧
        (same → t.link = { linkAfter .ok s with state := .ready }) ∧
        (¬same → t.link = { linkAfter .okClamped s with state := .ready }) ∧
        t.input.history = (s.input.history ++ [permit]).drop (s.input.history.length + 1 - 3) ∧
        t.planner = { s.planner with prepared := none } ∧ t.sched.table = s.sched.table ∧
        t.sched.converter = s.sched.converter ∧ t.comm = { s.comm with onTime := 0, marks := [], blanking := 0 } ∧
        t.pump = { s.pump with alignStarts := t.pump.alignStarts, alignEntry := t.pump.alignEntry } ∧
        t.rq = queueAfter fr s ∧
        t = { s with time := t.time, drumCar := t.drumCar, pumpCar := t.pumpCar, setup := t.setup, drumGates := t.drumGates, pumpGates := t.pumpGates, input := t.input, planner := t.planner, sched := t.sched, recon := t.recon, comm := t.comm, pump := t.pump, link := t.link, rq := t.rq })

/-- A TABLE frame in READY (R61, R62, R107, R130). INPUT is BUSY with a motor out of OFF, BAD_ARGUMENT for a field that
names nothing, and else replaces its row, codes above 4095 clamped; with input NONE every queued request of the measurand
leaves with LOST, UNASSIGNED, counted and delivered to its owner (R57, R59), and the converter goes on. COMMUTATION,
PROFILE, RAMP and RAMP_LENGTH are BUSY with the pump out of OFF, refused for a bad row, and else
replace the row, the profile or the length, clamped. -/
def Obligations.TableFramesReplaceRows : Prop :=
  ∀ (s : State) (fr : FrameInProgress), Receiving s fr → s.link.state = .ready →
    let clamp := fun lo hi n : Nat => max lo (min hi n)
    let result := fun same : Bool => if same then Result.ok else Result.okClamped
    (∀ row source input offset trip,
      (s.drum.state ≠ .off ∨ s.pump.state ≠ .off →
        exec (.tableInput row source input offset trip) s = .next (answered fr .busy s)) ∧
      (s.drum.state = .off → s.pump.state = .off →
        measurandOf row = none ∨ sourceOf source = none ∨ inputOf input = none →
        exec (.tableInput row source input offset trip) s = .next (answered fr .badArgument s)) ∧
      (∀ m src i, s.drum.state = .off → s.pump.state = .off → measurandOf row = some m → sourceOf source = some src →
        inputOf input = some i →
        let content : InputRow := ⟨i, src, BitVec.ofNat 12 (min offset.toNat 4095), BitVec.ofNat 12 (min trip.toNat 4095)⟩
        let r := result (decide (offset.toNat ≤ 4095 ∧ trip.toNat ≤ 4095))
        ∃ t, exec (.tableInput row source input offset trip) s = .next t ∧
          t.sched.table = s.sched.table.set m.index content ∧ t.link = linkAfter r s ∧ t.rq = queueAfter fr s ∧
          t = { s with sched := t.sched, recon := t.recon, comm := t.comm, link := t.link, rq := t.rq } ∧
          (i.isSome = true → t = { answered fr r s with sched := { s.sched with table := t.sched.table } }) ∧
          (i = none →
            let gone := s.sched.queue.filter fun q => decide (q.measurand = m)
            let w := gone.foldl (fun u q => afterLost .unassigned q u) s
            t = { answered fr r s with
              sched :=
                { w.sched with
                  table := s.sched.table.set m.index content
                  queue := s.sched.queue.filter fun q => decide (q.measurand ≠ m) }
              recon := w.recon }))) ∧
    (∀ row high low floating polarity,
      (s.pump.state ≠ .off → exec (.tableCommutation row high low floating polarity) s = .next (answered fr .busy s)) ∧
      (s.pump.state = .off → 6 ≤ row.toNat ∨ commutationRowOf high low floating polarity = none →
        exec (.tableCommutation row high low floating polarity) s = .next (answered fr .badArgument s)) ∧
      (∀ r, s.pump.state = .off → row.toNat < 6 → commutationRowOf high low floating polarity = some r →
        r.high = r.low ∨ r.low = r.floating ∨ r.high = r.floating →
        exec (.tableCommutation row high low floating polarity) s = .next (answered fr .tableInvalid s)) ∧
      (∀ (i : Fin 6) r, s.pump.state = .off → row.toNat = i.val → commutationRowOf high low floating polarity = some r →
        r.high ≠ r.low → r.low ≠ r.floating → r.high ≠ r.floating →
        exec (.tableCommutation row high low floating polarity) s = .next
          { answered fr .ok s with comm := { s.comm with table := s.comm.table.set i r } })) ∧
    (∀ f : ProfileFields,
      (s.pump.state ≠ .off → exec (.tableProfile f) s = .next (answered fr .busy s)) ∧
      (s.pump.state = .off → 6 ≤ f.startIndex.toNat → exec (.tableProfile f) s = .next (answered fr .badArgument s)) ∧
      (∀ i : Fin 6, s.pump.state = .off → f.startIndex.toNat = i.val →
        let p : StartProfile :=
          ⟨f.alignDuty, clamp 1 65535 f.alignPeriods.toNat, clamp 0 232 f.alpha8.toNat, clamp 1 15 f.blanking.toNat,
            clamp 6 15 f.nstable.toNat, clamp 1 15 f.kzc.toNat, i⟩
        let same := decide (p.alignPeriods = f.alignPeriods.toNat ∧ p.alpha8 = f.alpha8.toNat ∧
          p.blanking = f.blanking.toNat ∧ p.nstable = f.nstable.toNat ∧ p.kzc = f.kzc.toNat)
        exec (.tableProfile f) s = .next { answered fr (result same) s with pump := { s.pump with profile := p } })) ∧
    (∀ row interval repeats duty,
      (s.pump.state ≠ .off → exec (.tableRamp row interval repeats duty) s = .next (answered fr .busy s)) ∧
      (∀ i : Fin 16, s.pump.state = .off → row.toNat = i.val →
        exec (.tableRamp row interval repeats duty) s = .next
          { answered fr (result (decide (100 ≤ interval.toNat ∧ 1 ≤ repeats.toNat))) s with
            pump :=
              { s.pump with
                ramp := s.pump.ramp.set i
                  ⟨clamp 100 16777215 interval.toNat, clamp 1 255 repeats.toNat, duty⟩ } })) ∧
    (∀ length : BitVec 5,
      (s.pump.state ≠ .off → exec (.tableRampLength length) s = .next (answered fr .busy s)) ∧
      (s.pump.state = .off →
        exec (.tableRampLength length) s = .next
          { answered fr (result (decide (1 ≤ length.toNat ∧ length.toNat ≤ 16))) s with
            pump := { s.pump with rampLength := clamp 1 16 length.toNat } }))

/-- The control codes that write flags, in READY (R13, R14, R101, R102, R142, R154). DRY_ON and DRY_OFF are taken in OFF
of their motor, where they turn no output on, and are BAD_STATE elsewhere; REPORT_ON and REPORT_OFF are taken in every
state; CLEAR_FLAGS clears the eight sticky flags and nothing else. -/
def Obligations.FlagControls : Prop :=
  ∀ (s : State) (fr : FrameInProgress), Receiving s fr → s.link.state = .ready →
    let u := answered fr .ok s
    (s.drum.state ≠ .off →
      exec (.dryOn .drum) s = .next (answered fr .badState s) ∧ exec (.dryOff .drum) s = .next (answered fr .badState s)) ∧
    (s.pump.state ≠ .off →
      exec (.dryOn .pump) s = .next (answered fr .badState s) ∧ exec (.dryOff .pump) s = .next (answered fr .badState s)) ∧
    (s.drum.state = .off → (∀ x, s.drumGates.get x = ⟨.float, .absent, false, false⟩) →
      exec (.dryOn .drum) s = .next { u with drum := { s.drum with dry := true } } ∧
      exec (.dryOff .drum) s = .next { u with drum := { s.drum with dry := false } }) ∧
    (s.pump.state = .off → (∀ x, s.pumpGates.get x = ⟨.float, .absent, false, false⟩) →
      exec (.dryOn .pump) s = .next { u with pump := { s.pump with dry := true } } ∧
      exec (.dryOff .pump) s = .next { u with pump := { s.pump with dry := false } }) ∧
    exec (.reportOn .drum) s = .next { u with drum := { s.drum with report := true } } ∧
    exec (.reportOff .drum) s = .next { u with drum := { s.drum with report := false } } ∧
    exec (.reportOn .pump) s = .next { u with pump := { s.pump with report := true } } ∧
    exec (.reportOff .pump) s = .next { u with pump := { s.pump with report := false } } ∧
    exec .clearFlags s = .next
      { u with link := { u.link with flags := ⟨false, false, false, false, false, false, false, false⟩ } }

/-! ### Records and queries -/

/-- A joining record (R158): with room it becomes the newest; with 32 held, the oldest not in transit leaves, is
counted up to 65535, sets OVERRUN and the gap mark, and the frame in progress remembers it; the record in transit stays
at the head, and nothing else changes.
So the queue holds at most 32 records through every step, and a record in transit is one it holds. -/
def Obligations.RecordQueueLaw : Prop :=
  (∀ (r : Record) (s : State),
    (s.rq.records.length < 32 → joinRecord r s = { s with rq := { s.rq with records := s.rq.records ++ [r] } }) ∧
    (∀ head second rest, s.rq.records = head :: second :: rest → 32 ≤ s.rq.records.length →
      joinRecord r s =
        { s with
          rq :=
            { s.rq with
              records := if s.rq.inTransit then head :: rest ++ [r] else second :: rest ++ [r]
              lost := min (s.rq.lost + 1) 65535
              gap := true }
          link :=
            { s.link with
              flags := { s.link.flags with overrun := true }
              frame := s.link.frame.map fun f => { f with displaced := true } } } ∧
      (joinRecord r s).rq.records.length = s.rq.records.length)) ∧
  (∀ s t : State, RecordsKept s → step s = .next t → RecordsKept t)

/-- QUERY (R164 to R166): the page is composed from the state as it stands once the record in transit has left; then
the clear flag sets the page's counters to 0, a snapshot page empties its slot whatever the flag, and the STATUS record
joins. A TABLE query of an unknown table or row is BAD_ARGUMENT; that PROFILE and RAMP_LENGTH take any row is the
model's choice (log 17). So are, at a tick that other events share, that nothing joins between the leaving and the reply,
which leaves a cleared lost-record counter at 0 before the reply joins (log 33), and that the DRUM page shows the Drum
Carrier's number at a period start still to be taken (log 34). -/
def Obligations.QueriesAnswerWithPages : Prop :=
  ∀ (clear : Bool) (s : State) (fr : FrameInProgress), Receiving s fr →
    let u := answered fr .ok s
    exec (.queryLink clear) s = .next
      (joinRecord
        (.status (.link ⟨s.link.state, s.link.resetCause, s.link.checkErrors, s.link.lengthErrors, s.rq.lost, s.link.flags⟩))
        (if clear then
          { u with link := { u.link with checkErrors := 0, lengthErrors := 0 }, rq := { u.rq with lost := 0 } }
        else u)) ∧
    exec (.queryDrum clear) s = .next
      (joinRecord
        (.status (.drum ⟨s.drum.state, s.drum.stopPending, s.drum.cause, s.planner.misses,
          (inputRow .drumShunt s).offset, s.drumCar.period, s.sched.lostDrum, s.drum.dry, s.drum.report⟩))
        (if clear then { u with sched := { s.sched with lostDrum := 0 } } else u)) ∧
    exec (.queryPump clear) s = .next
      (joinRecord
        (.status (.pump ⟨s.pump.state, s.comm.stepIndex, s.comm.direction, s.pump.stable, s.comm.zcMisses,
          s.sched.lostPump, s.pump.cause, s.pump.dry, s.pump.report⟩))
        (if clear then { u with sched := { s.sched with lostPump := 0 } } else u)) ∧
    exec (.queryDrumSnap clear) s = .next
      (joinRecord (.status (.drumSnap s.drum.snapshot)) { u with drum := { s.drum with snapshot := none } }) ∧
    exec (.queryPumpSnap clear) s = .next
      (joinRecord (.status (.pumpSnap s.pump.snapshot)) { u with pump := { s.pump with snapshot := none } }) ∧
    exec (.queryPumpRingA clear) s = .next
      (joinRecord (.status (.ringA s.comm.ring[0]? s.comm.ring[1]? s.comm.ring[2]?)) u) ∧
    exec (.queryPumpRingB clear) s = .next
      (joinRecord (.status (.ringB s.comm.ring[3]? s.comm.ring[4]? s.comm.ring[5]?)) u) ∧
    (∀ id row : BitVec 4,
      (∀ i : Fin 6, id = 1 → row.toNat = i.val → exec (.queryTable clear id row) s = .next
        (joinRecord (.status (.table id row (.commutation s.comm.table[i]))) u)) ∧
      (∀ i : Fin 16, id = 2 → row.toNat = i.val → exec (.queryTable clear id row) s = .next
        (joinRecord (.status (.table id row (.ramp s.pump.ramp[i]))) u)) ∧
      (id = 3 → exec (.queryTable clear id row) s = .next
        (joinRecord (.status (.table id row (.profile s.pump.profile))) u)) ∧
      (∀ i : Fin 8, id = 4 → row.toNat = i.val → exec (.queryTable clear id row) s = .next
        (joinRecord (.status (.table id row (.input s.sched.table[i]))) u)) ∧
      (id = 5 → exec (.queryTable clear id row) s = .next
        (joinRecord (.status (.table id row (.rampLength s.pump.rampLength))) u)) ∧
      (id = 0 ∨ 6 ≤ id.toNat ∨ (id = 1 ∧ 6 ≤ row.toNat) ∨ (id = 4 ∧ 8 ≤ row.toNat) →
        exec (.queryTable clear id row) s = .next (answered fr .badArgument s)))

/-! ### Resets -/

/-- The four ways of a reset (R1, R10, R104, R144, R155 to R157): every part takes its value after reset but the FAULT
lines' levels and LSEL, and the cause is named. POWER (with RESET_N high) and COMMAND leave the RESET notice as the only
record, with its stamp 0; PIN leaves the queue empty until RESET_N returns high, when the notice joins, and that it
acts also with RESET_N low before is the model's choice (log 11). PIN_RESET_RELEASE, with RESET_N low, lets the RESET
notice of the cause on record join and changes RESET_N alone besides (R157; after a power-on with RESET_N low: log
10). -/
def Obligations.ResetsGiveResetValues : Prop :=
  ∀ s : State,
    let after := fun (cause : ResetCause) (records : List Record) =>
      { State.reset with
        input := { State.reset.input with faultD := s.input.faultD, faultP := s.input.faultP }
        link := { State.reset.link with resetCause := cause, resetN := s.link.resetN, selected := s.link.selected }
        rq := { State.reset.rq with records := records }
        pending := s.pending
        freeCount := s.freeCount }
    (s.link.resetN = true → exec .powerReset s = .next (after .power [.notice (.reset .power) 0 0])) ∧
    (exec .pinReset s = .next
      { after .pin [] with link := { (after .pin []).link with resetN := false } }) ∧
    (s.link.resetN = false → exec .pinResetRelease s = .next
      (joinNotice (.reset s.link.resetCause) { s with link := { s.link with resetN := true } })) ∧
    (∀ t, exec .pinReset s = .next t →
      exec .pinResetRelease t = .next
        { after .pin [.notice (.reset .pin) 0 0] with
          link := { (after .pin []).link with resetN := true } }) ∧
    (∀ fr, Receiving s fr → s.link.state = .ready →
      exec .reset s = .next
        { after .command [.notice (.reset .command) 0 0] with
          link := { (after .command []).link with selected := false } })
end

