-- ==== Sys2Proof/Laws/State.lean ====
section
/-! SUPPORT. Reading a part of State after an update: one lemma for each part and each update, and two updates of one part. -/

namespace Sys2Proof.Machine

/-- Two states with equal parts are equal. -/
@[ext] theorem State.ext_parts {s t : State}
    (time : s.time = t.time) (drumCar : s.drumCar = t.drumCar) (pumpCar : s.pumpCar = t.pumpCar) (setup : s.setup = t.setup)
    (drumGates : s.drumGates = t.drumGates) (pumpGates : s.pumpGates = t.pumpGates) (input : s.input = t.input) (planner : s.planner = t.planner)
    (sched : s.sched = t.sched) (recon : s.recon = t.recon) (drum : s.drum = t.drum) (comm : s.comm = t.comm)
    (pump : s.pump = t.pump) (link : s.link = t.link) (rq : s.rq = t.rq) (pending : s.pending = t.pending)
    (freeCount : s.freeCount = t.freeCount) : s = t := by
  cases s; cases t; simp_all

@[simp] theorem State.withTime_time (s : State) (x : Timebase) : (s.withTime x).time = x := rfl
@[simp] theorem State.withTime_drumCar (s : State) (x : Timebase) : (s.withTime x).drumCar = s.drumCar := rfl
@[simp] theorem State.withTime_pumpCar (s : State) (x : Timebase) : (s.withTime x).pumpCar = s.pumpCar := rfl
@[simp] theorem State.withTime_setup (s : State) (x : Timebase) : (s.withTime x).setup = s.setup := rfl
@[simp] theorem State.withTime_drumGates (s : State) (x : Timebase) : (s.withTime x).drumGates = s.drumGates := rfl
@[simp] theorem State.withTime_pumpGates (s : State) (x : Timebase) : (s.withTime x).pumpGates = s.pumpGates := rfl
@[simp] theorem State.withTime_input (s : State) (x : Timebase) : (s.withTime x).input = s.input := rfl
@[simp] theorem State.withTime_planner (s : State) (x : Timebase) : (s.withTime x).planner = s.planner := rfl
@[simp] theorem State.withTime_sched (s : State) (x : Timebase) : (s.withTime x).sched = s.sched := rfl
@[simp] theorem State.withTime_recon (s : State) (x : Timebase) : (s.withTime x).recon = s.recon := rfl
@[simp] theorem State.withTime_drum (s : State) (x : Timebase) : (s.withTime x).drum = s.drum := rfl
@[simp] theorem State.withTime_comm (s : State) (x : Timebase) : (s.withTime x).comm = s.comm := rfl
@[simp] theorem State.withTime_pump (s : State) (x : Timebase) : (s.withTime x).pump = s.pump := rfl
@[simp] theorem State.withTime_link (s : State) (x : Timebase) : (s.withTime x).link = s.link := rfl
@[simp] theorem State.withTime_rq (s : State) (x : Timebase) : (s.withTime x).rq = s.rq := rfl
@[simp] theorem State.withTime_pending (s : State) (x : Timebase) : (s.withTime x).pending = s.pending := rfl
@[simp] theorem State.withTime_freeCount (s : State) (x : Timebase) : (s.withTime x).freeCount = s.freeCount := rfl
@[simp] theorem State.withTime_withTime (s : State) (x y : Timebase) : (s.withTime x).withTime y = s.withTime y := rfl
@[simp] theorem State.withTime_self (s : State) : s.withTime s.time = s := rfl

@[simp] theorem State.withDrumCar_time (s : State) (x : DrumCarrier) : (s.withDrumCar x).time = s.time := rfl
@[simp] theorem State.withDrumCar_drumCar (s : State) (x : DrumCarrier) : (s.withDrumCar x).drumCar = x := rfl
@[simp] theorem State.withDrumCar_pumpCar (s : State) (x : DrumCarrier) : (s.withDrumCar x).pumpCar = s.pumpCar := rfl
@[simp] theorem State.withDrumCar_setup (s : State) (x : DrumCarrier) : (s.withDrumCar x).setup = s.setup := rfl
@[simp] theorem State.withDrumCar_drumGates (s : State) (x : DrumCarrier) : (s.withDrumCar x).drumGates = s.drumGates := rfl
@[simp] theorem State.withDrumCar_pumpGates (s : State) (x : DrumCarrier) : (s.withDrumCar x).pumpGates = s.pumpGates := rfl
@[simp] theorem State.withDrumCar_input (s : State) (x : DrumCarrier) : (s.withDrumCar x).input = s.input := rfl
@[simp] theorem State.withDrumCar_planner (s : State) (x : DrumCarrier) : (s.withDrumCar x).planner = s.planner := rfl
@[simp] theorem State.withDrumCar_sched (s : State) (x : DrumCarrier) : (s.withDrumCar x).sched = s.sched := rfl
@[simp] theorem State.withDrumCar_recon (s : State) (x : DrumCarrier) : (s.withDrumCar x).recon = s.recon := rfl
@[simp] theorem State.withDrumCar_drum (s : State) (x : DrumCarrier) : (s.withDrumCar x).drum = s.drum := rfl
@[simp] theorem State.withDrumCar_comm (s : State) (x : DrumCarrier) : (s.withDrumCar x).comm = s.comm := rfl
@[simp] theorem State.withDrumCar_pump (s : State) (x : DrumCarrier) : (s.withDrumCar x).pump = s.pump := rfl
@[simp] theorem State.withDrumCar_link (s : State) (x : DrumCarrier) : (s.withDrumCar x).link = s.link := rfl
@[simp] theorem State.withDrumCar_rq (s : State) (x : DrumCarrier) : (s.withDrumCar x).rq = s.rq := rfl
@[simp] theorem State.withDrumCar_pending (s : State) (x : DrumCarrier) : (s.withDrumCar x).pending = s.pending := rfl
@[simp] theorem State.withDrumCar_freeCount (s : State) (x : DrumCarrier) : (s.withDrumCar x).freeCount = s.freeCount := rfl
@[simp] theorem State.withDrumCar_withDrumCar (s : State) (x y : DrumCarrier) : (s.withDrumCar x).withDrumCar y = s.withDrumCar y := rfl
@[simp] theorem State.withDrumCar_self (s : State) : s.withDrumCar s.drumCar = s := rfl

@[simp] theorem State.withPumpCar_time (s : State) (x : PumpCarrier) : (s.withPumpCar x).time = s.time := rfl
@[simp] theorem State.withPumpCar_drumCar (s : State) (x : PumpCarrier) : (s.withPumpCar x).drumCar = s.drumCar := rfl
@[simp] theorem State.withPumpCar_pumpCar (s : State) (x : PumpCarrier) : (s.withPumpCar x).pumpCar = x := rfl
@[simp] theorem State.withPumpCar_setup (s : State) (x : PumpCarrier) : (s.withPumpCar x).setup = s.setup := rfl
@[simp] theorem State.withPumpCar_drumGates (s : State) (x : PumpCarrier) : (s.withPumpCar x).drumGates = s.drumGates := rfl
@[simp] theorem State.withPumpCar_pumpGates (s : State) (x : PumpCarrier) : (s.withPumpCar x).pumpGates = s.pumpGates := rfl
@[simp] theorem State.withPumpCar_input (s : State) (x : PumpCarrier) : (s.withPumpCar x).input = s.input := rfl
@[simp] theorem State.withPumpCar_planner (s : State) (x : PumpCarrier) : (s.withPumpCar x).planner = s.planner := rfl
@[simp] theorem State.withPumpCar_sched (s : State) (x : PumpCarrier) : (s.withPumpCar x).sched = s.sched := rfl
@[simp] theorem State.withPumpCar_recon (s : State) (x : PumpCarrier) : (s.withPumpCar x).recon = s.recon := rfl
@[simp] theorem State.withPumpCar_drum (s : State) (x : PumpCarrier) : (s.withPumpCar x).drum = s.drum := rfl
@[simp] theorem State.withPumpCar_comm (s : State) (x : PumpCarrier) : (s.withPumpCar x).comm = s.comm := rfl
@[simp] theorem State.withPumpCar_pump (s : State) (x : PumpCarrier) : (s.withPumpCar x).pump = s.pump := rfl
@[simp] theorem State.withPumpCar_link (s : State) (x : PumpCarrier) : (s.withPumpCar x).link = s.link := rfl
@[simp] theorem State.withPumpCar_rq (s : State) (x : PumpCarrier) : (s.withPumpCar x).rq = s.rq := rfl
@[simp] theorem State.withPumpCar_pending (s : State) (x : PumpCarrier) : (s.withPumpCar x).pending = s.pending := rfl
@[simp] theorem State.withPumpCar_freeCount (s : State) (x : PumpCarrier) : (s.withPumpCar x).freeCount = s.freeCount := rfl
@[simp] theorem State.withPumpCar_withPumpCar (s : State) (x y : PumpCarrier) : (s.withPumpCar x).withPumpCar y = s.withPumpCar y := rfl
@[simp] theorem State.withPumpCar_self (s : State) : s.withPumpCar s.pumpCar = s := rfl

@[simp] theorem State.withSetup_time (s : State) (x : SetupStore) : (s.withSetup x).time = s.time := rfl
@[simp] theorem State.withSetup_drumCar (s : State) (x : SetupStore) : (s.withSetup x).drumCar = s.drumCar := rfl
@[simp] theorem State.withSetup_pumpCar (s : State) (x : SetupStore) : (s.withSetup x).pumpCar = s.pumpCar := rfl
@[simp] theorem State.withSetup_setup (s : State) (x : SetupStore) : (s.withSetup x).setup = x := rfl
@[simp] theorem State.withSetup_drumGates (s : State) (x : SetupStore) : (s.withSetup x).drumGates = s.drumGates := rfl
@[simp] theorem State.withSetup_pumpGates (s : State) (x : SetupStore) : (s.withSetup x).pumpGates = s.pumpGates := rfl
@[simp] theorem State.withSetup_input (s : State) (x : SetupStore) : (s.withSetup x).input = s.input := rfl
@[simp] theorem State.withSetup_planner (s : State) (x : SetupStore) : (s.withSetup x).planner = s.planner := rfl
@[simp] theorem State.withSetup_sched (s : State) (x : SetupStore) : (s.withSetup x).sched = s.sched := rfl
@[simp] theorem State.withSetup_recon (s : State) (x : SetupStore) : (s.withSetup x).recon = s.recon := rfl
@[simp] theorem State.withSetup_drum (s : State) (x : SetupStore) : (s.withSetup x).drum = s.drum := rfl
@[simp] theorem State.withSetup_comm (s : State) (x : SetupStore) : (s.withSetup x).comm = s.comm := rfl
@[simp] theorem State.withSetup_pump (s : State) (x : SetupStore) : (s.withSetup x).pump = s.pump := rfl
@[simp] theorem State.withSetup_link (s : State) (x : SetupStore) : (s.withSetup x).link = s.link := rfl
@[simp] theorem State.withSetup_rq (s : State) (x : SetupStore) : (s.withSetup x).rq = s.rq := rfl
@[simp] theorem State.withSetup_pending (s : State) (x : SetupStore) : (s.withSetup x).pending = s.pending := rfl
@[simp] theorem State.withSetup_freeCount (s : State) (x : SetupStore) : (s.withSetup x).freeCount = s.freeCount := rfl
@[simp] theorem State.withSetup_withSetup (s : State) (x y : SetupStore) : (s.withSetup x).withSetup y = s.withSetup y := rfl
@[simp] theorem State.withSetup_self (s : State) : s.withSetup s.setup = s := rfl

@[simp] theorem State.withDrumGates_time (s : State) (x : PerPhase PhaseRecord) : (s.withDrumGates x).time = s.time := rfl
@[simp] theorem State.withDrumGates_drumCar (s : State) (x : PerPhase PhaseRecord) : (s.withDrumGates x).drumCar = s.drumCar := rfl
@[simp] theorem State.withDrumGates_pumpCar (s : State) (x : PerPhase PhaseRecord) : (s.withDrumGates x).pumpCar = s.pumpCar := rfl
@[simp] theorem State.withDrumGates_setup (s : State) (x : PerPhase PhaseRecord) : (s.withDrumGates x).setup = s.setup := rfl
@[simp] theorem State.withDrumGates_drumGates (s : State) (x : PerPhase PhaseRecord) : (s.withDrumGates x).drumGates = x := rfl
@[simp] theorem State.withDrumGates_pumpGates (s : State) (x : PerPhase PhaseRecord) : (s.withDrumGates x).pumpGates = s.pumpGates := rfl
@[simp] theorem State.withDrumGates_input (s : State) (x : PerPhase PhaseRecord) : (s.withDrumGates x).input = s.input := rfl
@[simp] theorem State.withDrumGates_planner (s : State) (x : PerPhase PhaseRecord) : (s.withDrumGates x).planner = s.planner := rfl
@[simp] theorem State.withDrumGates_sched (s : State) (x : PerPhase PhaseRecord) : (s.withDrumGates x).sched = s.sched := rfl
@[simp] theorem State.withDrumGates_recon (s : State) (x : PerPhase PhaseRecord) : (s.withDrumGates x).recon = s.recon := rfl
@[simp] theorem State.withDrumGates_drum (s : State) (x : PerPhase PhaseRecord) : (s.withDrumGates x).drum = s.drum := rfl
@[simp] theorem State.withDrumGates_comm (s : State) (x : PerPhase PhaseRecord) : (s.withDrumGates x).comm = s.comm := rfl
@[simp] theorem State.withDrumGates_pump (s : State) (x : PerPhase PhaseRecord) : (s.withDrumGates x).pump = s.pump := rfl
@[simp] theorem State.withDrumGates_link (s : State) (x : PerPhase PhaseRecord) : (s.withDrumGates x).link = s.link := rfl
@[simp] theorem State.withDrumGates_rq (s : State) (x : PerPhase PhaseRecord) : (s.withDrumGates x).rq = s.rq := rfl
@[simp] theorem State.withDrumGates_pending (s : State) (x : PerPhase PhaseRecord) : (s.withDrumGates x).pending = s.pending := rfl
@[simp] theorem State.withDrumGates_freeCount (s : State) (x : PerPhase PhaseRecord) : (s.withDrumGates x).freeCount = s.freeCount := rfl
@[simp] theorem State.withDrumGates_withDrumGates (s : State) (x y : PerPhase PhaseRecord) : (s.withDrumGates x).withDrumGates y = s.withDrumGates y := rfl
@[simp] theorem State.withDrumGates_self (s : State) : s.withDrumGates s.drumGates = s := rfl

@[simp] theorem State.withPumpGates_time (s : State) (x : PerPhase PhaseRecord) : (s.withPumpGates x).time = s.time := rfl
@[simp] theorem State.withPumpGates_drumCar (s : State) (x : PerPhase PhaseRecord) : (s.withPumpGates x).drumCar = s.drumCar := rfl
@[simp] theorem State.withPumpGates_pumpCar (s : State) (x : PerPhase PhaseRecord) : (s.withPumpGates x).pumpCar = s.pumpCar := rfl
@[simp] theorem State.withPumpGates_setup (s : State) (x : PerPhase PhaseRecord) : (s.withPumpGates x).setup = s.setup := rfl
@[simp] theorem State.withPumpGates_drumGates (s : State) (x : PerPhase PhaseRecord) : (s.withPumpGates x).drumGates = s.drumGates := rfl
@[simp] theorem State.withPumpGates_pumpGates (s : State) (x : PerPhase PhaseRecord) : (s.withPumpGates x).pumpGates = x := rfl
@[simp] theorem State.withPumpGates_input (s : State) (x : PerPhase PhaseRecord) : (s.withPumpGates x).input = s.input := rfl
@[simp] theorem State.withPumpGates_planner (s : State) (x : PerPhase PhaseRecord) : (s.withPumpGates x).planner = s.planner := rfl
@[simp] theorem State.withPumpGates_sched (s : State) (x : PerPhase PhaseRecord) : (s.withPumpGates x).sched = s.sched := rfl
@[simp] theorem State.withPumpGates_recon (s : State) (x : PerPhase PhaseRecord) : (s.withPumpGates x).recon = s.recon := rfl
@[simp] theorem State.withPumpGates_drum (s : State) (x : PerPhase PhaseRecord) : (s.withPumpGates x).drum = s.drum := rfl
@[simp] theorem State.withPumpGates_comm (s : State) (x : PerPhase PhaseRecord) : (s.withPumpGates x).comm = s.comm := rfl
@[simp] theorem State.withPumpGates_pump (s : State) (x : PerPhase PhaseRecord) : (s.withPumpGates x).pump = s.pump := rfl
@[simp] theorem State.withPumpGates_link (s : State) (x : PerPhase PhaseRecord) : (s.withPumpGates x).link = s.link := rfl
@[simp] theorem State.withPumpGates_rq (s : State) (x : PerPhase PhaseRecord) : (s.withPumpGates x).rq = s.rq := rfl
@[simp] theorem State.withPumpGates_pending (s : State) (x : PerPhase PhaseRecord) : (s.withPumpGates x).pending = s.pending := rfl
@[simp] theorem State.withPumpGates_freeCount (s : State) (x : PerPhase PhaseRecord) : (s.withPumpGates x).freeCount = s.freeCount := rfl
@[simp] theorem State.withPumpGates_withPumpGates (s : State) (x y : PerPhase PhaseRecord) : (s.withPumpGates x).withPumpGates y = s.withPumpGates y := rfl
@[simp] theorem State.withPumpGates_self (s : State) : s.withPumpGates s.pumpGates = s := rfl

@[simp] theorem State.withInput_time (s : State) (x : InputConditioner) : (s.withInput x).time = s.time := rfl
@[simp] theorem State.withInput_drumCar (s : State) (x : InputConditioner) : (s.withInput x).drumCar = s.drumCar := rfl
@[simp] theorem State.withInput_pumpCar (s : State) (x : InputConditioner) : (s.withInput x).pumpCar = s.pumpCar := rfl
@[simp] theorem State.withInput_setup (s : State) (x : InputConditioner) : (s.withInput x).setup = s.setup := rfl
@[simp] theorem State.withInput_drumGates (s : State) (x : InputConditioner) : (s.withInput x).drumGates = s.drumGates := rfl
@[simp] theorem State.withInput_pumpGates (s : State) (x : InputConditioner) : (s.withInput x).pumpGates = s.pumpGates := rfl
@[simp] theorem State.withInput_input (s : State) (x : InputConditioner) : (s.withInput x).input = x := rfl
@[simp] theorem State.withInput_planner (s : State) (x : InputConditioner) : (s.withInput x).planner = s.planner := rfl
@[simp] theorem State.withInput_sched (s : State) (x : InputConditioner) : (s.withInput x).sched = s.sched := rfl
@[simp] theorem State.withInput_recon (s : State) (x : InputConditioner) : (s.withInput x).recon = s.recon := rfl
@[simp] theorem State.withInput_drum (s : State) (x : InputConditioner) : (s.withInput x).drum = s.drum := rfl
@[simp] theorem State.withInput_comm (s : State) (x : InputConditioner) : (s.withInput x).comm = s.comm := rfl
@[simp] theorem State.withInput_pump (s : State) (x : InputConditioner) : (s.withInput x).pump = s.pump := rfl
@[simp] theorem State.withInput_link (s : State) (x : InputConditioner) : (s.withInput x).link = s.link := rfl
@[simp] theorem State.withInput_rq (s : State) (x : InputConditioner) : (s.withInput x).rq = s.rq := rfl
@[simp] theorem State.withInput_pending (s : State) (x : InputConditioner) : (s.withInput x).pending = s.pending := rfl
@[simp] theorem State.withInput_freeCount (s : State) (x : InputConditioner) : (s.withInput x).freeCount = s.freeCount := rfl
@[simp] theorem State.withInput_withInput (s : State) (x y : InputConditioner) : (s.withInput x).withInput y = s.withInput y := rfl
@[simp] theorem State.withInput_self (s : State) : s.withInput s.input = s := rfl

@[simp] theorem State.withPlanner_time (s : State) (x : Planner) : (s.withPlanner x).time = s.time := rfl
@[simp] theorem State.withPlanner_drumCar (s : State) (x : Planner) : (s.withPlanner x).drumCar = s.drumCar := rfl
@[simp] theorem State.withPlanner_pumpCar (s : State) (x : Planner) : (s.withPlanner x).pumpCar = s.pumpCar := rfl
@[simp] theorem State.withPlanner_setup (s : State) (x : Planner) : (s.withPlanner x).setup = s.setup := rfl
@[simp] theorem State.withPlanner_drumGates (s : State) (x : Planner) : (s.withPlanner x).drumGates = s.drumGates := rfl
@[simp] theorem State.withPlanner_pumpGates (s : State) (x : Planner) : (s.withPlanner x).pumpGates = s.pumpGates := rfl
@[simp] theorem State.withPlanner_input (s : State) (x : Planner) : (s.withPlanner x).input = s.input := rfl
@[simp] theorem State.withPlanner_planner (s : State) (x : Planner) : (s.withPlanner x).planner = x := rfl
@[simp] theorem State.withPlanner_sched (s : State) (x : Planner) : (s.withPlanner x).sched = s.sched := rfl
@[simp] theorem State.withPlanner_recon (s : State) (x : Planner) : (s.withPlanner x).recon = s.recon := rfl
@[simp] theorem State.withPlanner_drum (s : State) (x : Planner) : (s.withPlanner x).drum = s.drum := rfl
@[simp] theorem State.withPlanner_comm (s : State) (x : Planner) : (s.withPlanner x).comm = s.comm := rfl
@[simp] theorem State.withPlanner_pump (s : State) (x : Planner) : (s.withPlanner x).pump = s.pump := rfl
@[simp] theorem State.withPlanner_link (s : State) (x : Planner) : (s.withPlanner x).link = s.link := rfl
@[simp] theorem State.withPlanner_rq (s : State) (x : Planner) : (s.withPlanner x).rq = s.rq := rfl
@[simp] theorem State.withPlanner_pending (s : State) (x : Planner) : (s.withPlanner x).pending = s.pending := rfl
@[simp] theorem State.withPlanner_freeCount (s : State) (x : Planner) : (s.withPlanner x).freeCount = s.freeCount := rfl
@[simp] theorem State.withPlanner_withPlanner (s : State) (x y : Planner) : (s.withPlanner x).withPlanner y = s.withPlanner y := rfl
@[simp] theorem State.withPlanner_self (s : State) : s.withPlanner s.planner = s := rfl

@[simp] theorem State.withSched_time (s : State) (x : Scheduler) : (s.withSched x).time = s.time := rfl
@[simp] theorem State.withSched_drumCar (s : State) (x : Scheduler) : (s.withSched x).drumCar = s.drumCar := rfl
@[simp] theorem State.withSched_pumpCar (s : State) (x : Scheduler) : (s.withSched x).pumpCar = s.pumpCar := rfl
@[simp] theorem State.withSched_setup (s : State) (x : Scheduler) : (s.withSched x).setup = s.setup := rfl
@[simp] theorem State.withSched_drumGates (s : State) (x : Scheduler) : (s.withSched x).drumGates = s.drumGates := rfl
@[simp] theorem State.withSched_pumpGates (s : State) (x : Scheduler) : (s.withSched x).pumpGates = s.pumpGates := rfl
@[simp] theorem State.withSched_input (s : State) (x : Scheduler) : (s.withSched x).input = s.input := rfl
@[simp] theorem State.withSched_planner (s : State) (x : Scheduler) : (s.withSched x).planner = s.planner := rfl
@[simp] theorem State.withSched_sched (s : State) (x : Scheduler) : (s.withSched x).sched = x := rfl
@[simp] theorem State.withSched_recon (s : State) (x : Scheduler) : (s.withSched x).recon = s.recon := rfl
@[simp] theorem State.withSched_drum (s : State) (x : Scheduler) : (s.withSched x).drum = s.drum := rfl
@[simp] theorem State.withSched_comm (s : State) (x : Scheduler) : (s.withSched x).comm = s.comm := rfl
@[simp] theorem State.withSched_pump (s : State) (x : Scheduler) : (s.withSched x).pump = s.pump := rfl
@[simp] theorem State.withSched_link (s : State) (x : Scheduler) : (s.withSched x).link = s.link := rfl
@[simp] theorem State.withSched_rq (s : State) (x : Scheduler) : (s.withSched x).rq = s.rq := rfl
@[simp] theorem State.withSched_pending (s : State) (x : Scheduler) : (s.withSched x).pending = s.pending := rfl
@[simp] theorem State.withSched_freeCount (s : State) (x : Scheduler) : (s.withSched x).freeCount = s.freeCount := rfl
@[simp] theorem State.withSched_withSched (s : State) (x y : Scheduler) : (s.withSched x).withSched y = s.withSched y := rfl
@[simp] theorem State.withSched_self (s : State) : s.withSched s.sched = s := rfl

@[simp] theorem State.withRecon_time (s : State) (x : Reconstructor) : (s.withRecon x).time = s.time := rfl
@[simp] theorem State.withRecon_drumCar (s : State) (x : Reconstructor) : (s.withRecon x).drumCar = s.drumCar := rfl
@[simp] theorem State.withRecon_pumpCar (s : State) (x : Reconstructor) : (s.withRecon x).pumpCar = s.pumpCar := rfl
@[simp] theorem State.withRecon_setup (s : State) (x : Reconstructor) : (s.withRecon x).setup = s.setup := rfl
@[simp] theorem State.withRecon_drumGates (s : State) (x : Reconstructor) : (s.withRecon x).drumGates = s.drumGates := rfl
@[simp] theorem State.withRecon_pumpGates (s : State) (x : Reconstructor) : (s.withRecon x).pumpGates = s.pumpGates := rfl
@[simp] theorem State.withRecon_input (s : State) (x : Reconstructor) : (s.withRecon x).input = s.input := rfl
@[simp] theorem State.withRecon_planner (s : State) (x : Reconstructor) : (s.withRecon x).planner = s.planner := rfl
@[simp] theorem State.withRecon_sched (s : State) (x : Reconstructor) : (s.withRecon x).sched = s.sched := rfl
@[simp] theorem State.withRecon_recon (s : State) (x : Reconstructor) : (s.withRecon x).recon = x := rfl
@[simp] theorem State.withRecon_drum (s : State) (x : Reconstructor) : (s.withRecon x).drum = s.drum := rfl
@[simp] theorem State.withRecon_comm (s : State) (x : Reconstructor) : (s.withRecon x).comm = s.comm := rfl
@[simp] theorem State.withRecon_pump (s : State) (x : Reconstructor) : (s.withRecon x).pump = s.pump := rfl
@[simp] theorem State.withRecon_link (s : State) (x : Reconstructor) : (s.withRecon x).link = s.link := rfl
@[simp] theorem State.withRecon_rq (s : State) (x : Reconstructor) : (s.withRecon x).rq = s.rq := rfl
@[simp] theorem State.withRecon_pending (s : State) (x : Reconstructor) : (s.withRecon x).pending = s.pending := rfl
@[simp] theorem State.withRecon_freeCount (s : State) (x : Reconstructor) : (s.withRecon x).freeCount = s.freeCount := rfl
@[simp] theorem State.withRecon_withRecon (s : State) (x y : Reconstructor) : (s.withRecon x).withRecon y = s.withRecon y := rfl
@[simp] theorem State.withRecon_self (s : State) : s.withRecon s.recon = s := rfl

@[simp] theorem State.withDrum_time (s : State) (x : DrumControl) : (s.withDrum x).time = s.time := rfl
@[simp] theorem State.withDrum_drumCar (s : State) (x : DrumControl) : (s.withDrum x).drumCar = s.drumCar := rfl
@[simp] theorem State.withDrum_pumpCar (s : State) (x : DrumControl) : (s.withDrum x).pumpCar = s.pumpCar := rfl
@[simp] theorem State.withDrum_setup (s : State) (x : DrumControl) : (s.withDrum x).setup = s.setup := rfl
@[simp] theorem State.withDrum_drumGates (s : State) (x : DrumControl) : (s.withDrum x).drumGates = s.drumGates := rfl
@[simp] theorem State.withDrum_pumpGates (s : State) (x : DrumControl) : (s.withDrum x).pumpGates = s.pumpGates := rfl
@[simp] theorem State.withDrum_input (s : State) (x : DrumControl) : (s.withDrum x).input = s.input := rfl
@[simp] theorem State.withDrum_planner (s : State) (x : DrumControl) : (s.withDrum x).planner = s.planner := rfl
@[simp] theorem State.withDrum_sched (s : State) (x : DrumControl) : (s.withDrum x).sched = s.sched := rfl
@[simp] theorem State.withDrum_recon (s : State) (x : DrumControl) : (s.withDrum x).recon = s.recon := rfl
@[simp] theorem State.withDrum_drum (s : State) (x : DrumControl) : (s.withDrum x).drum = x := rfl
@[simp] theorem State.withDrum_comm (s : State) (x : DrumControl) : (s.withDrum x).comm = s.comm := rfl
@[simp] theorem State.withDrum_pump (s : State) (x : DrumControl) : (s.withDrum x).pump = s.pump := rfl
@[simp] theorem State.withDrum_link (s : State) (x : DrumControl) : (s.withDrum x).link = s.link := rfl
@[simp] theorem State.withDrum_rq (s : State) (x : DrumControl) : (s.withDrum x).rq = s.rq := rfl
@[simp] theorem State.withDrum_pending (s : State) (x : DrumControl) : (s.withDrum x).pending = s.pending := rfl
@[simp] theorem State.withDrum_freeCount (s : State) (x : DrumControl) : (s.withDrum x).freeCount = s.freeCount := rfl
@[simp] theorem State.withDrum_withDrum (s : State) (x y : DrumControl) : (s.withDrum x).withDrum y = s.withDrum y := rfl
@[simp] theorem State.withDrum_self (s : State) : s.withDrum s.drum = s := rfl

@[simp] theorem State.withComm_time (s : State) (x : Commutator) : (s.withComm x).time = s.time := rfl
@[simp] theorem State.withComm_drumCar (s : State) (x : Commutator) : (s.withComm x).drumCar = s.drumCar := rfl
@[simp] theorem State.withComm_pumpCar (s : State) (x : Commutator) : (s.withComm x).pumpCar = s.pumpCar := rfl
@[simp] theorem State.withComm_setup (s : State) (x : Commutator) : (s.withComm x).setup = s.setup := rfl
@[simp] theorem State.withComm_drumGates (s : State) (x : Commutator) : (s.withComm x).drumGates = s.drumGates := rfl
@[simp] theorem State.withComm_pumpGates (s : State) (x : Commutator) : (s.withComm x).pumpGates = s.pumpGates := rfl
@[simp] theorem State.withComm_input (s : State) (x : Commutator) : (s.withComm x).input = s.input := rfl
@[simp] theorem State.withComm_planner (s : State) (x : Commutator) : (s.withComm x).planner = s.planner := rfl
@[simp] theorem State.withComm_sched (s : State) (x : Commutator) : (s.withComm x).sched = s.sched := rfl
@[simp] theorem State.withComm_recon (s : State) (x : Commutator) : (s.withComm x).recon = s.recon := rfl
@[simp] theorem State.withComm_drum (s : State) (x : Commutator) : (s.withComm x).drum = s.drum := rfl
@[simp] theorem State.withComm_comm (s : State) (x : Commutator) : (s.withComm x).comm = x := rfl
@[simp] theorem State.withComm_pump (s : State) (x : Commutator) : (s.withComm x).pump = s.pump := rfl
@[simp] theorem State.withComm_link (s : State) (x : Commutator) : (s.withComm x).link = s.link := rfl
@[simp] theorem State.withComm_rq (s : State) (x : Commutator) : (s.withComm x).rq = s.rq := rfl
@[simp] theorem State.withComm_pending (s : State) (x : Commutator) : (s.withComm x).pending = s.pending := rfl
@[simp] theorem State.withComm_freeCount (s : State) (x : Commutator) : (s.withComm x).freeCount = s.freeCount := rfl
@[simp] theorem State.withComm_withComm (s : State) (x y : Commutator) : (s.withComm x).withComm y = s.withComm y := rfl
@[simp] theorem State.withComm_self (s : State) : s.withComm s.comm = s := rfl

@[simp] theorem State.withPump_time (s : State) (x : PumpControl) : (s.withPump x).time = s.time := rfl
@[simp] theorem State.withPump_drumCar (s : State) (x : PumpControl) : (s.withPump x).drumCar = s.drumCar := rfl
@[simp] theorem State.withPump_pumpCar (s : State) (x : PumpControl) : (s.withPump x).pumpCar = s.pumpCar := rfl
@[simp] theorem State.withPump_setup (s : State) (x : PumpControl) : (s.withPump x).setup = s.setup := rfl
@[simp] theorem State.withPump_drumGates (s : State) (x : PumpControl) : (s.withPump x).drumGates = s.drumGates := rfl
@[simp] theorem State.withPump_pumpGates (s : State) (x : PumpControl) : (s.withPump x).pumpGates = s.pumpGates := rfl
@[simp] theorem State.withPump_input (s : State) (x : PumpControl) : (s.withPump x).input = s.input := rfl
@[simp] theorem State.withPump_planner (s : State) (x : PumpControl) : (s.withPump x).planner = s.planner := rfl
@[simp] theorem State.withPump_sched (s : State) (x : PumpControl) : (s.withPump x).sched = s.sched := rfl
@[simp] theorem State.withPump_recon (s : State) (x : PumpControl) : (s.withPump x).recon = s.recon := rfl
@[simp] theorem State.withPump_drum (s : State) (x : PumpControl) : (s.withPump x).drum = s.drum := rfl
@[simp] theorem State.withPump_comm (s : State) (x : PumpControl) : (s.withPump x).comm = s.comm := rfl
@[simp] theorem State.withPump_pump (s : State) (x : PumpControl) : (s.withPump x).pump = x := rfl
@[simp] theorem State.withPump_link (s : State) (x : PumpControl) : (s.withPump x).link = s.link := rfl
@[simp] theorem State.withPump_rq (s : State) (x : PumpControl) : (s.withPump x).rq = s.rq := rfl
@[simp] theorem State.withPump_pending (s : State) (x : PumpControl) : (s.withPump x).pending = s.pending := rfl
@[simp] theorem State.withPump_freeCount (s : State) (x : PumpControl) : (s.withPump x).freeCount = s.freeCount := rfl
@[simp] theorem State.withPump_withPump (s : State) (x y : PumpControl) : (s.withPump x).withPump y = s.withPump y := rfl
@[simp] theorem State.withPump_self (s : State) : s.withPump s.pump = s := rfl

@[simp] theorem State.withLink_time (s : State) (x : LinkPort) : (s.withLink x).time = s.time := rfl
@[simp] theorem State.withLink_drumCar (s : State) (x : LinkPort) : (s.withLink x).drumCar = s.drumCar := rfl
@[simp] theorem State.withLink_pumpCar (s : State) (x : LinkPort) : (s.withLink x).pumpCar = s.pumpCar := rfl
@[simp] theorem State.withLink_setup (s : State) (x : LinkPort) : (s.withLink x).setup = s.setup := rfl
@[simp] theorem State.withLink_drumGates (s : State) (x : LinkPort) : (s.withLink x).drumGates = s.drumGates := rfl
@[simp] theorem State.withLink_pumpGates (s : State) (x : LinkPort) : (s.withLink x).pumpGates = s.pumpGates := rfl
@[simp] theorem State.withLink_input (s : State) (x : LinkPort) : (s.withLink x).input = s.input := rfl
@[simp] theorem State.withLink_planner (s : State) (x : LinkPort) : (s.withLink x).planner = s.planner := rfl
@[simp] theorem State.withLink_sched (s : State) (x : LinkPort) : (s.withLink x).sched = s.sched := rfl
@[simp] theorem State.withLink_recon (s : State) (x : LinkPort) : (s.withLink x).recon = s.recon := rfl
@[simp] theorem State.withLink_drum (s : State) (x : LinkPort) : (s.withLink x).drum = s.drum := rfl
@[simp] theorem State.withLink_comm (s : State) (x : LinkPort) : (s.withLink x).comm = s.comm := rfl
@[simp] theorem State.withLink_pump (s : State) (x : LinkPort) : (s.withLink x).pump = s.pump := rfl
@[simp] theorem State.withLink_link (s : State) (x : LinkPort) : (s.withLink x).link = x := rfl
@[simp] theorem State.withLink_rq (s : State) (x : LinkPort) : (s.withLink x).rq = s.rq := rfl
@[simp] theorem State.withLink_pending (s : State) (x : LinkPort) : (s.withLink x).pending = s.pending := rfl
@[simp] theorem State.withLink_freeCount (s : State) (x : LinkPort) : (s.withLink x).freeCount = s.freeCount := rfl
@[simp] theorem State.withLink_withLink (s : State) (x y : LinkPort) : (s.withLink x).withLink y = s.withLink y := rfl
@[simp] theorem State.withLink_self (s : State) : s.withLink s.link = s := rfl

@[simp] theorem State.withRq_time (s : State) (x : RecordQueue) : (s.withRq x).time = s.time := rfl
@[simp] theorem State.withRq_drumCar (s : State) (x : RecordQueue) : (s.withRq x).drumCar = s.drumCar := rfl
@[simp] theorem State.withRq_pumpCar (s : State) (x : RecordQueue) : (s.withRq x).pumpCar = s.pumpCar := rfl
@[simp] theorem State.withRq_setup (s : State) (x : RecordQueue) : (s.withRq x).setup = s.setup := rfl
@[simp] theorem State.withRq_drumGates (s : State) (x : RecordQueue) : (s.withRq x).drumGates = s.drumGates := rfl
@[simp] theorem State.withRq_pumpGates (s : State) (x : RecordQueue) : (s.withRq x).pumpGates = s.pumpGates := rfl
@[simp] theorem State.withRq_input (s : State) (x : RecordQueue) : (s.withRq x).input = s.input := rfl
@[simp] theorem State.withRq_planner (s : State) (x : RecordQueue) : (s.withRq x).planner = s.planner := rfl
@[simp] theorem State.withRq_sched (s : State) (x : RecordQueue) : (s.withRq x).sched = s.sched := rfl
@[simp] theorem State.withRq_recon (s : State) (x : RecordQueue) : (s.withRq x).recon = s.recon := rfl
@[simp] theorem State.withRq_drum (s : State) (x : RecordQueue) : (s.withRq x).drum = s.drum := rfl
@[simp] theorem State.withRq_comm (s : State) (x : RecordQueue) : (s.withRq x).comm = s.comm := rfl
@[simp] theorem State.withRq_pump (s : State) (x : RecordQueue) : (s.withRq x).pump = s.pump := rfl
@[simp] theorem State.withRq_link (s : State) (x : RecordQueue) : (s.withRq x).link = s.link := rfl
@[simp] theorem State.withRq_rq (s : State) (x : RecordQueue) : (s.withRq x).rq = x := rfl
@[simp] theorem State.withRq_pending (s : State) (x : RecordQueue) : (s.withRq x).pending = s.pending := rfl
@[simp] theorem State.withRq_freeCount (s : State) (x : RecordQueue) : (s.withRq x).freeCount = s.freeCount := rfl
@[simp] theorem State.withRq_withRq (s : State) (x y : RecordQueue) : (s.withRq x).withRq y = s.withRq y := rfl
@[simp] theorem State.withRq_self (s : State) : s.withRq s.rq = s := rfl

@[simp] theorem State.withPending_time (s : State) (x : List Instr) : (s.withPending x).time = s.time := rfl
@[simp] theorem State.withPending_drumCar (s : State) (x : List Instr) : (s.withPending x).drumCar = s.drumCar := rfl
@[simp] theorem State.withPending_pumpCar (s : State) (x : List Instr) : (s.withPending x).pumpCar = s.pumpCar := rfl
@[simp] theorem State.withPending_setup (s : State) (x : List Instr) : (s.withPending x).setup = s.setup := rfl
@[simp] theorem State.withPending_drumGates (s : State) (x : List Instr) : (s.withPending x).drumGates = s.drumGates := rfl
@[simp] theorem State.withPending_pumpGates (s : State) (x : List Instr) : (s.withPending x).pumpGates = s.pumpGates := rfl
@[simp] theorem State.withPending_input (s : State) (x : List Instr) : (s.withPending x).input = s.input := rfl
@[simp] theorem State.withPending_planner (s : State) (x : List Instr) : (s.withPending x).planner = s.planner := rfl
@[simp] theorem State.withPending_sched (s : State) (x : List Instr) : (s.withPending x).sched = s.sched := rfl
@[simp] theorem State.withPending_recon (s : State) (x : List Instr) : (s.withPending x).recon = s.recon := rfl
@[simp] theorem State.withPending_drum (s : State) (x : List Instr) : (s.withPending x).drum = s.drum := rfl
@[simp] theorem State.withPending_comm (s : State) (x : List Instr) : (s.withPending x).comm = s.comm := rfl
@[simp] theorem State.withPending_pump (s : State) (x : List Instr) : (s.withPending x).pump = s.pump := rfl
@[simp] theorem State.withPending_link (s : State) (x : List Instr) : (s.withPending x).link = s.link := rfl
@[simp] theorem State.withPending_rq (s : State) (x : List Instr) : (s.withPending x).rq = s.rq := rfl
@[simp] theorem State.withPending_pending (s : State) (x : List Instr) : (s.withPending x).pending = x := rfl
@[simp] theorem State.withPending_freeCount (s : State) (x : List Instr) : (s.withPending x).freeCount = s.freeCount := rfl
@[simp] theorem State.withPending_withPending (s : State) (x y : List Instr) : (s.withPending x).withPending y = s.withPending y := rfl
@[simp] theorem State.withPending_self (s : State) : s.withPending s.pending = s := rfl

@[simp] theorem State.withFreeCount_time (s : State) (x : Nat) : (s.withFreeCount x).time = s.time := rfl
@[simp] theorem State.withFreeCount_drumCar (s : State) (x : Nat) : (s.withFreeCount x).drumCar = s.drumCar := rfl
@[simp] theorem State.withFreeCount_pumpCar (s : State) (x : Nat) : (s.withFreeCount x).pumpCar = s.pumpCar := rfl
@[simp] theorem State.withFreeCount_setup (s : State) (x : Nat) : (s.withFreeCount x).setup = s.setup := rfl
@[simp] theorem State.withFreeCount_drumGates (s : State) (x : Nat) : (s.withFreeCount x).drumGates = s.drumGates := rfl
@[simp] theorem State.withFreeCount_pumpGates (s : State) (x : Nat) : (s.withFreeCount x).pumpGates = s.pumpGates := rfl
@[simp] theorem State.withFreeCount_input (s : State) (x : Nat) : (s.withFreeCount x).input = s.input := rfl
@[simp] theorem State.withFreeCount_planner (s : State) (x : Nat) : (s.withFreeCount x).planner = s.planner := rfl
@[simp] theorem State.withFreeCount_sched (s : State) (x : Nat) : (s.withFreeCount x).sched = s.sched := rfl
@[simp] theorem State.withFreeCount_recon (s : State) (x : Nat) : (s.withFreeCount x).recon = s.recon := rfl
@[simp] theorem State.withFreeCount_drum (s : State) (x : Nat) : (s.withFreeCount x).drum = s.drum := rfl
@[simp] theorem State.withFreeCount_comm (s : State) (x : Nat) : (s.withFreeCount x).comm = s.comm := rfl
@[simp] theorem State.withFreeCount_pump (s : State) (x : Nat) : (s.withFreeCount x).pump = s.pump := rfl
@[simp] theorem State.withFreeCount_link (s : State) (x : Nat) : (s.withFreeCount x).link = s.link := rfl
@[simp] theorem State.withFreeCount_rq (s : State) (x : Nat) : (s.withFreeCount x).rq = s.rq := rfl
@[simp] theorem State.withFreeCount_pending (s : State) (x : Nat) : (s.withFreeCount x).pending = s.pending := rfl
@[simp] theorem State.withFreeCount_freeCount (s : State) (x : Nat) : (s.withFreeCount x).freeCount = x := rfl
@[simp] theorem State.withFreeCount_withFreeCount (s : State) (x y : Nat) : (s.withFreeCount x).withFreeCount y = s.withFreeCount y := rfl
@[simp] theorem State.withFreeCount_self (s : State) : s.withFreeCount s.freeCount = s := rfl

end Sys2Proof.Machine
end

