-- ==== Sys2Proof/Laws/Gates.lean ====
section
/-! SUPPORT. What the Gate Output Stage can change: for each operation the parts of State it leaves as they were (`_kept`), and its effect. -/

namespace Sys2Proof.Machine

@[simp] theorem drive_kept (m : Motor) (x : Phase) (d : Drive) (s : State) :
    (drive m x d s).time = s.time ∧ (drive m x d s).drumCar = s.drumCar ∧ (drive m x d s).pumpCar = s.pumpCar ∧
    (drive m x d s).setup = s.setup ∧ (drive m x d s).input = s.input ∧ (drive m x d s).planner = s.planner ∧
    (drive m x d s).sched = s.sched ∧ (drive m x d s).recon = s.recon ∧ (drive m x d s).drum = s.drum ∧
    (drive m x d s).comm = s.comm ∧ (drive m x d s).pump = s.pump ∧ (drive m x d s).link = s.link ∧
    (drive m x d s).rq = s.rq ∧ (drive m x d s).pending = s.pending ∧ (drive m x d s).freeCount = s.freeCount := by
  cases m <;> simp [drive, withGates]

@[simp] theorem drive_drum_pumpGates (x : Phase) (d : Drive) (s : State) : (drive .drum x d s).pumpGates = s.pumpGates := by
  simp [drive, withGates]

@[simp] theorem drive_pump_drumGates (x : Phase) (d : Drive) (s : State) : (drive .pump x d s).drumGates = s.drumGates := by
  simp [drive, withGates]

@[simp] theorem driveAll_kept (m : Motor) (d : Drive) (s : State) :
    (driveAll m d s).time = s.time ∧ (driveAll m d s).drumCar = s.drumCar ∧ (driveAll m d s).pumpCar = s.pumpCar ∧
    (driveAll m d s).setup = s.setup ∧ (driveAll m d s).input = s.input ∧ (driveAll m d s).planner = s.planner ∧
    (driveAll m d s).sched = s.sched ∧ (driveAll m d s).recon = s.recon ∧ (driveAll m d s).drum = s.drum ∧
    (driveAll m d s).comm = s.comm ∧ (driveAll m d s).pump = s.pump ∧ (driveAll m d s).link = s.link ∧
    (driveAll m d s).rq = s.rq ∧ (driveAll m d s).pending = s.pending ∧
    (driveAll m d s).freeCount = s.freeCount := by
  cases m <;> simp [driveAll, withGates]

@[simp] theorem driveAll_drum_pumpGates (d : Drive) (s : State) : (driveAll .drum d s).pumpGates = s.pumpGates := by
  simp [driveAll, withGates]

@[simp] theorem driveAll_pump_drumGates (d : Drive) (s : State) : (driveAll .pump d s).drumGates = s.drumGates := by
  simp [driveAll, withGates]

@[simp] theorem applyForcing_kept (m : Motor) (f : Forcing) (s : State) :
    (applyForcing m f s).time = s.time ∧ (applyForcing m f s).drumCar = s.drumCar ∧
    (applyForcing m f s).pumpCar = s.pumpCar ∧ (applyForcing m f s).setup = s.setup ∧
    (applyForcing m f s).input = s.input ∧ (applyForcing m f s).planner = s.planner ∧
    (applyForcing m f s).sched = s.sched ∧ (applyForcing m f s).recon = s.recon ∧
    (applyForcing m f s).drum = s.drum ∧ (applyForcing m f s).comm = s.comm ∧ (applyForcing m f s).pump = s.pump ∧
    (applyForcing m f s).link = s.link ∧ (applyForcing m f s).rq = s.rq ∧ (applyForcing m f s).pending = s.pending ∧
    (applyForcing m f s).freeCount = s.freeCount := by
  cases m <;> simp [applyForcing, withGates]

@[simp] theorem applyForcing_drum_pumpGates (f : Forcing) (s : State) : (applyForcing .drum f s).pumpGates = s.pumpGates := by
  simp [applyForcing, withGates]

@[simp] theorem applyForcing_pump_drumGates (f : Forcing) (s : State) : (applyForcing .pump f s).drumGates = s.drumGates := by
  simp [applyForcing, withGates]

@[simp] theorem takeEnable_kept (m : Motor) (x : Phase) (s : State) :
    (takeEnable m x s).time = s.time ∧ (takeEnable m x s).drumCar = s.drumCar ∧
    (takeEnable m x s).pumpCar = s.pumpCar ∧ (takeEnable m x s).setup = s.setup ∧
    (takeEnable m x s).input = s.input ∧ (takeEnable m x s).planner = s.planner ∧
    (takeEnable m x s).sched = s.sched ∧ (takeEnable m x s).recon = s.recon ∧ (takeEnable m x s).drum = s.drum ∧
    (takeEnable m x s).comm = s.comm ∧ (takeEnable m x s).pump = s.pump ∧ (takeEnable m x s).link = s.link ∧
    (takeEnable m x s).rq = s.rq ∧ (takeEnable m x s).pending = s.pending ∧
    (takeEnable m x s).freeCount = s.freeCount := by
  cases m <;> simp [takeEnable, withGates]

@[simp] theorem takeEnable_drum_pumpGates (x : Phase) (s : State) : (takeEnable .drum x s).pumpGates = s.pumpGates := by
  simp [takeEnable, withGates]

@[simp] theorem takeEnable_pump_drumGates (x : Phase) (s : State) : (takeEnable .pump x s).drumGates = s.drumGates := by
  simp [takeEnable, withGates]

@[simp] theorem PerPhase.get_set_self {α : Type} (v : PerPhase α) (x : Phase) (y : α) : (v.set x y).get x = y := by
  cases x <;> rfl

/-- Replacing one phase's value leaves the others. -/
theorem PerPhase.get_set_other {α : Type} (v : PerPhase α) {x z : Phase} (y : α) (h : z ≠ x) :
    (v.set x y).get z = v.get z := by
  cases x <;> cases z <;> first | rfl | exact absurd rfl h

@[simp] theorem PerPhase.get_map {α β : Type} (v : PerPhase α) (f : α → β) (x : Phase) : (v.map f).get x = f (v.get x) := by
  cases x <;> rfl

/-- The gates of the motor whose gates are replaced. -/
@[simp] theorem gatesOf_withGates (m : Motor) (g : PerPhase PhaseRecord) (s : State) : gatesOf m (withGates m g s) = g := by
  cases m <;> rfl

/-- Commanding one motor's phases leaves the forcing causes. -/
@[simp] theorem forcing_withGates (m n : Motor) (g : PerPhase PhaseRecord) (s : State) :
    forcing m (withGates n g s) = forcing m s := by
  cases m <;> cases n <;> rfl

/-- A commanded phase is the one commanded (R11). -/
@[simp] theorem PhaseRecord.command_commanded (d : Drive) (t : Tick) (f : Forcing) (r : PhaseRecord) :
    (r.command d t f).commanded = d := by
  unfold PhaseRecord.command; split
  · assumption
  · cases d <;> rfl

/-- FLOAT turns both sides off at once, whatever forces them (R11). -/
theorem PhaseRecord.command_float (t : Tick) (f : Forcing) (r : PhaseRecord) :
    r.command .float t f = if r.commanded = .float then r else ⟨.float, .absent, false, false⟩ := by
  simp [PhaseRecord.command, PhaseRecord.refresh]

/-- LOW turns both sides off at once; the low side may turn on at the enable time (R11). -/
theorem PhaseRecord.command_low (t : Tick) (f : Forcing) (r : PhaseRecord) :
    r.command .low t f = if r.commanded = .low then r else ⟨.low, .at t, false, false⟩ := by
  simp [PhaseRecord.command, PhaseRecord.refresh]

/-- HIGH turns both sides off at once; the high side may turn on at the enable time (R11). -/
theorem PhaseRecord.command_high (t : Tick) (f : Forcing) (r : PhaseRecord) :
    r.command .high t f = if r.commanded = .high then r else ⟨.high, .at t, false, false⟩ := by
  simp [PhaseRecord.command, PhaseRecord.refresh]

end Sys2Proof.Machine
end

