-- ==== Sys2Proof/Laws/Records.lean ====
section
/-! SUPPORT. What the sticky flags, the Record Queue and the result can change: for each operation the parts of State it leaves as they were (`_kept`), and its effect. -/

namespace Sys2Proof.Machine

@[simp] theorem setOverrun_kept (s : State) :
    (setOverrun s).time = s.time ∧ (setOverrun s).drumCar = s.drumCar ∧ (setOverrun s).pumpCar = s.pumpCar ∧
    (setOverrun s).setup = s.setup ∧ (setOverrun s).drumGates = s.drumGates ∧
    (setOverrun s).pumpGates = s.pumpGates ∧ (setOverrun s).input = s.input ∧ (setOverrun s).planner = s.planner ∧
    (setOverrun s).sched = s.sched ∧ (setOverrun s).recon = s.recon ∧ (setOverrun s).drum = s.drum ∧
    (setOverrun s).comm = s.comm ∧ (setOverrun s).pump = s.pump ∧ (setOverrun s).rq = s.rq ∧
    (setOverrun s).pending = s.pending ∧ (setOverrun s).freeCount = s.freeCount := by
  simp [setOverrun, State.withFlags]

@[simp] theorem setCheckErr_kept (s : State) :
    (setCheckErr s).time = s.time ∧ (setCheckErr s).drumCar = s.drumCar ∧ (setCheckErr s).pumpCar = s.pumpCar ∧
    (setCheckErr s).setup = s.setup ∧ (setCheckErr s).drumGates = s.drumGates ∧
    (setCheckErr s).pumpGates = s.pumpGates ∧ (setCheckErr s).input = s.input ∧ (setCheckErr s).planner = s.planner ∧
    (setCheckErr s).sched = s.sched ∧ (setCheckErr s).recon = s.recon ∧ (setCheckErr s).drum = s.drum ∧
    (setCheckErr s).comm = s.comm ∧ (setCheckErr s).pump = s.pump ∧ (setCheckErr s).rq = s.rq ∧
    (setCheckErr s).pending = s.pending ∧ (setCheckErr s).freeCount = s.freeCount := by
  simp [setCheckErr, State.withFlags]

@[simp] theorem setLengthErr_kept (s : State) :
    (setLengthErr s).time = s.time ∧ (setLengthErr s).drumCar = s.drumCar ∧ (setLengthErr s).pumpCar = s.pumpCar ∧
    (setLengthErr s).setup = s.setup ∧ (setLengthErr s).drumGates = s.drumGates ∧
    (setLengthErr s).pumpGates = s.pumpGates ∧ (setLengthErr s).input = s.input ∧
    (setLengthErr s).planner = s.planner ∧ (setLengthErr s).sched = s.sched ∧ (setLengthErr s).recon = s.recon ∧
    (setLengthErr s).drum = s.drum ∧ (setLengthErr s).comm = s.comm ∧ (setLengthErr s).pump = s.pump ∧
    (setLengthErr s).rq = s.rq ∧ (setLengthErr s).pending = s.pending ∧
    (setLengthErr s).freeCount = s.freeCount := by
  simp [setLengthErr, State.withFlags]

@[simp] theorem setRefused_kept (s : State) :
    (setRefused s).time = s.time ∧ (setRefused s).drumCar = s.drumCar ∧ (setRefused s).pumpCar = s.pumpCar ∧
    (setRefused s).setup = s.setup ∧ (setRefused s).drumGates = s.drumGates ∧
    (setRefused s).pumpGates = s.pumpGates ∧ (setRefused s).input = s.input ∧ (setRefused s).planner = s.planner ∧
    (setRefused s).sched = s.sched ∧ (setRefused s).recon = s.recon ∧ (setRefused s).drum = s.drum ∧
    (setRefused s).comm = s.comm ∧ (setRefused s).pump = s.pump ∧ (setRefused s).rq = s.rq ∧
    (setRefused s).pending = s.pending ∧ (setRefused s).freeCount = s.freeCount := by
  simp [setRefused, State.withFlags]

@[simp] theorem setDutyOverwrite_kept (s : State) :
    (setDutyOverwrite s).time = s.time ∧ (setDutyOverwrite s).drumCar = s.drumCar ∧
    (setDutyOverwrite s).pumpCar = s.pumpCar ∧ (setDutyOverwrite s).setup = s.setup ∧
    (setDutyOverwrite s).drumGates = s.drumGates ∧ (setDutyOverwrite s).pumpGates = s.pumpGates ∧
    (setDutyOverwrite s).input = s.input ∧ (setDutyOverwrite s).planner = s.planner ∧
    (setDutyOverwrite s).sched = s.sched ∧ (setDutyOverwrite s).recon = s.recon ∧
    (setDutyOverwrite s).drum = s.drum ∧ (setDutyOverwrite s).comm = s.comm ∧ (setDutyOverwrite s).pump = s.pump ∧
    (setDutyOverwrite s).rq = s.rq ∧ (setDutyOverwrite s).pending = s.pending ∧
    (setDutyOverwrite s).freeCount = s.freeCount := by
  simp [setDutyOverwrite, State.withFlags]

@[simp] theorem setLinkDegraded_kept (s : State) :
    (setLinkDegraded s).time = s.time ∧ (setLinkDegraded s).drumCar = s.drumCar ∧
    (setLinkDegraded s).pumpCar = s.pumpCar ∧ (setLinkDegraded s).setup = s.setup ∧
    (setLinkDegraded s).drumGates = s.drumGates ∧ (setLinkDegraded s).pumpGates = s.pumpGates ∧
    (setLinkDegraded s).input = s.input ∧ (setLinkDegraded s).planner = s.planner ∧
    (setLinkDegraded s).sched = s.sched ∧ (setLinkDegraded s).recon = s.recon ∧ (setLinkDegraded s).drum = s.drum ∧
    (setLinkDegraded s).comm = s.comm ∧ (setLinkDegraded s).pump = s.pump ∧ (setLinkDegraded s).rq = s.rq ∧
    (setLinkDegraded s).pending = s.pending ∧ (setLinkDegraded s).freeCount = s.freeCount := by
  simp [setLinkDegraded, State.withFlags]

@[simp] theorem setSnapshotLost_kept (s : State) :
    (setSnapshotLost s).time = s.time ∧ (setSnapshotLost s).drumCar = s.drumCar ∧
    (setSnapshotLost s).pumpCar = s.pumpCar ∧ (setSnapshotLost s).setup = s.setup ∧
    (setSnapshotLost s).drumGates = s.drumGates ∧ (setSnapshotLost s).pumpGates = s.pumpGates ∧
    (setSnapshotLost s).input = s.input ∧ (setSnapshotLost s).planner = s.planner ∧
    (setSnapshotLost s).sched = s.sched ∧ (setSnapshotLost s).recon = s.recon ∧ (setSnapshotLost s).drum = s.drum ∧
    (setSnapshotLost s).comm = s.comm ∧ (setSnapshotLost s).pump = s.pump ∧ (setSnapshotLost s).rq = s.rq ∧
    (setSnapshotLost s).pending = s.pending ∧ (setSnapshotLost s).freeCount = s.freeCount := by
  simp [setSnapshotLost, State.withFlags]

@[simp] theorem setBroke_kept (s : State) :
    (setBroke s).time = s.time ∧ (setBroke s).drumCar = s.drumCar ∧ (setBroke s).pumpCar = s.pumpCar ∧
    (setBroke s).setup = s.setup ∧ (setBroke s).drumGates = s.drumGates ∧ (setBroke s).pumpGates = s.pumpGates ∧
    (setBroke s).input = s.input ∧ (setBroke s).planner = s.planner ∧ (setBroke s).sched = s.sched ∧
    (setBroke s).recon = s.recon ∧ (setBroke s).drum = s.drum ∧ (setBroke s).comm = s.comm ∧
    (setBroke s).pump = s.pump ∧ (setBroke s).rq = s.rq ∧ (setBroke s).pending = s.pending ∧
    (setBroke s).freeCount = s.freeCount := by
  simp [setBroke, State.withFlags]

@[simp] theorem markDisplaced_kept (s : State) :
    (markDisplaced s).time = s.time ∧ (markDisplaced s).drumCar = s.drumCar ∧ (markDisplaced s).pumpCar = s.pumpCar ∧
    (markDisplaced s).setup = s.setup ∧ (markDisplaced s).drumGates = s.drumGates ∧
    (markDisplaced s).pumpGates = s.pumpGates ∧ (markDisplaced s).input = s.input ∧
    (markDisplaced s).planner = s.planner ∧ (markDisplaced s).sched = s.sched ∧ (markDisplaced s).recon = s.recon ∧
    (markDisplaced s).drum = s.drum ∧ (markDisplaced s).comm = s.comm ∧ (markDisplaced s).pump = s.pump ∧
    (markDisplaced s).rq = s.rq ∧ (markDisplaced s).pending = s.pending ∧
    (markDisplaced s).freeCount = s.freeCount := by
  simp [markDisplaced]

@[simp] theorem joinRecord_kept (r : Record) (s : State) :
    (joinRecord r s).time = s.time ∧ (joinRecord r s).drumCar = s.drumCar ∧ (joinRecord r s).pumpCar = s.pumpCar ∧
    (joinRecord r s).setup = s.setup ∧ (joinRecord r s).drumGates = s.drumGates ∧
    (joinRecord r s).pumpGates = s.pumpGates ∧ (joinRecord r s).input = s.input ∧
    (joinRecord r s).planner = s.planner ∧ (joinRecord r s).sched = s.sched ∧ (joinRecord r s).recon = s.recon ∧
    (joinRecord r s).drum = s.drum ∧ (joinRecord r s).comm = s.comm ∧ (joinRecord r s).pump = s.pump ∧
    (joinRecord r s).pending = s.pending ∧ (joinRecord r s).freeCount = s.freeCount := by
  unfold joinRecord; split <;> simp

@[simp] theorem joinNotice_kept (n : Notice) (s : State) :
    (joinNotice n s).time = s.time ∧ (joinNotice n s).drumCar = s.drumCar ∧ (joinNotice n s).pumpCar = s.pumpCar ∧
    (joinNotice n s).setup = s.setup ∧ (joinNotice n s).drumGates = s.drumGates ∧
    (joinNotice n s).pumpGates = s.pumpGates ∧ (joinNotice n s).input = s.input ∧
    (joinNotice n s).planner = s.planner ∧ (joinNotice n s).sched = s.sched ∧ (joinNotice n s).recon = s.recon ∧
    (joinNotice n s).drum = s.drum ∧ (joinNotice n s).comm = s.comm ∧ (joinNotice n s).pump = s.pump ∧
    (joinNotice n s).pending = s.pending ∧ (joinNotice n s).freeCount = s.freeCount := by
  simp [joinNotice]

@[simp] theorem setResult_kept (r : Result) (s : State) :
    (setResult r s).time = s.time ∧ (setResult r s).drumCar = s.drumCar ∧ (setResult r s).pumpCar = s.pumpCar ∧
    (setResult r s).setup = s.setup ∧ (setResult r s).drumGates = s.drumGates ∧
    (setResult r s).pumpGates = s.pumpGates ∧ (setResult r s).input = s.input ∧ (setResult r s).planner = s.planner ∧
    (setResult r s).sched = s.sched ∧ (setResult r s).recon = s.recon ∧ (setResult r s).drum = s.drum ∧
    (setResult r s).comm = s.comm ∧ (setResult r s).pump = s.pump ∧ (setResult r s).rq = s.rq ∧
    (setResult r s).pending = s.pending ∧ (setResult r s).freeCount = s.freeCount := by
  unfold setResult; cases r.refused <;> simp

/-- A joining record is the newest (R157). -/
@[simp] theorem joinRecord_last (r : Record) (s : State) : (joinRecord r s).rq.records.getLast? = some r := by
  unfold joinRecord; split <;> simp

/-- Of the Link Port, a joining record touches OVERRUN and the frame in progress alone (R158, R160). -/
@[simp] theorem joinRecord_link (r : Record) (s : State) :
    (joinRecord r s).link.state = s.link.state ∧ (joinRecord r s).link.result = s.link.result ∧
    (joinRecord r s).link.checkErrors = s.link.checkErrors ∧
    (joinRecord r s).link.lengthErrors = s.link.lengthErrors ∧ (joinRecord r s).link.breakRun = s.link.breakRun ∧
    (joinRecord r s).link.resetCause = s.link.resetCause ∧ (joinRecord r s).link.bitCount = s.link.bitCount ∧
    (joinRecord r s).link.shift = s.link.shift ∧
    (joinRecord r s).link.ldo = s.link.ldo ∧ (joinRecord r s).link.resetN = s.link.resetN ∧
    (joinRecord r s).link.selected = s.link.selected ∧ (joinRecord r s).link.flags.checkErr = s.link.flags.checkErr ∧
    (joinRecord r s).link.flags.lengthErr = s.link.flags.lengthErr ∧
    (joinRecord r s).link.flags.refused = s.link.flags.refused ∧
    (joinRecord r s).link.flags.dutyOverwrite = s.link.flags.dutyOverwrite ∧
    (joinRecord r s).link.flags.linkDegraded = s.link.flags.linkDegraded ∧
    (joinRecord r s).link.flags.snapshotLost = s.link.flags.snapshotLost ∧
    (joinRecord r s).link.flags.broke = s.link.flags.broke := by
  unfold joinRecord; split <;> simp [markDisplaced, setOverrun, State.withFlags]

@[simp] theorem joinNotice_last (n : Notice) (s : State) :
    (joinNotice n s).rq.records.getLast? = some (.notice n (stampPeriod s) (stampOffset s)) := by
  simp [joinNotice]

@[simp] theorem joinNotice_link (n : Notice) (s : State) :
    (joinNotice n s).link.state = s.link.state ∧ (joinNotice n s).link.result = s.link.result ∧
    (joinNotice n s).link.checkErrors = s.link.checkErrors ∧
    (joinNotice n s).link.lengthErrors = s.link.lengthErrors ∧ (joinNotice n s).link.breakRun = s.link.breakRun ∧
    (joinNotice n s).link.resetCause = s.link.resetCause ∧ (joinNotice n s).link.bitCount = s.link.bitCount ∧
    (joinNotice n s).link.shift = s.link.shift ∧
    (joinNotice n s).link.ldo = s.link.ldo ∧ (joinNotice n s).link.resetN = s.link.resetN ∧
    (joinNotice n s).link.selected = s.link.selected ∧ (joinNotice n s).link.flags.checkErr = s.link.flags.checkErr ∧
    (joinNotice n s).link.flags.lengthErr = s.link.flags.lengthErr ∧
    (joinNotice n s).link.flags.refused = s.link.flags.refused ∧
    (joinNotice n s).link.flags.dutyOverwrite = s.link.flags.dutyOverwrite ∧
    (joinNotice n s).link.flags.linkDegraded = s.link.flags.linkDegraded ∧
    (joinNotice n s).link.flags.snapshotLost = s.link.flags.snapshotLost ∧
    (joinNotice n s).link.flags.broke = s.link.flags.broke := by
  simp [joinNotice]

/-- What a time stamp reads: the clock and the Drum Carrier (R163). -/
theorem stamp_congr {s t : State} (time : s.time = t.time) (car : s.drumCar = t.drumCar) :
    stampPeriod s = stampPeriod t ∧ stampOffset s = stampOffset t := by
  simp [stampPeriod, stampOffset, drumStartDue, time, car]

/-- What a joining record leaves in the Record Queue depends on that queue alone, and in the Link Port on both (R158). -/
theorem joinRecord_congr (r : Record) {s t : State} (rq : s.rq = t.rq) :
    (joinRecord r s).rq = (joinRecord r t).rq ∧ (s.link = t.link → (joinRecord r s).link = (joinRecord r t).link) := by
  unfold joinRecord
  rw [rq]
  split <;> simp_all [markDisplaced, setOverrun, State.withFlags]

/-- The same of a notice, whose stamp reads the clock and the Drum Carrier besides (R158, R163). -/
theorem joinNotice_congr (n : Notice) {s t : State} (rq : s.rq = t.rq) (time : s.time = t.time)
    (car : s.drumCar = t.drumCar) :
    (joinNotice n s).rq = (joinNotice n t).rq ∧ (s.link = t.link → (joinNotice n s).link = (joinNotice n t).link) := by
  unfold joinNotice
  rw [(stamp_congr time car).1, (stamp_congr time car).2]
  exact joinRecord_congr _ rq

/-- A result and REFUSED are all that `setResult` writes (R153). -/
theorem setResult_eq (r : Result) (s : State) :
    setResult r s = s.withLink
      { s.link with
        result := r
        flags := { s.link.flags with refused := s.link.flags.refused || r.refused } } := by
  unfold setResult
  cases h : r.refused <;> simp [setRefused, State.withFlags, State.withLink]

/-- The result of a frame and a record it lets join may be taken in either order. -/
theorem setResult_joinRecord (r : Result) (x : Record) (s : State) :
    setResult r (joinRecord x s) = joinRecord x (setResult r s) := by
  simp only [setResult_eq, joinRecord]
  by_cases h : s.rq.records.length < Config.recordCapacity
  · simp [h, State.withLink, State.withRq]
  · simp [h, State.withLink, State.withRq, markDisplaced, setOverrun, State.withFlags]

/-- The result of a frame and a notice it lets join may be taken in either order. -/
theorem setResult_joinNotice (r : Result) (n : Notice) (s : State) :
    setResult r (joinNotice n s) = joinNotice n (setResult r s) := by
  unfold joinNotice
  rw [setResult_joinRecord, (stamp_congr (s := setResult r s) (t := s) (by simp) (by simp)).1,
    (stamp_congr (s := setResult r s) (t := s) (by simp) (by simp)).2]

end Sys2Proof.Machine
end

