-- ==== Sys2Proof/Laws/DrumControl.lean ====
section
/-! SUPPORT. What Drum State Control can change: for each operation the parts of State it leaves as they were (`_kept`), and its effect. -/

namespace Sys2Proof.Machine

@[simp] theorem commandDrumPattern_kept (st : DrumState) (s : State) :
    (commandDrumPattern st s).time = s.time ∧ (commandDrumPattern st s).drumCar = s.drumCar ∧
    (commandDrumPattern st s).pumpCar = s.pumpCar ∧ (commandDrumPattern st s).setup = s.setup ∧
    (commandDrumPattern st s).pumpGates = s.pumpGates ∧ (commandDrumPattern st s).input = s.input ∧
    (commandDrumPattern st s).planner = s.planner ∧ (commandDrumPattern st s).sched = s.sched ∧
    (commandDrumPattern st s).recon = s.recon ∧ (commandDrumPattern st s).drum = s.drum ∧
    (commandDrumPattern st s).comm = s.comm ∧ (commandDrumPattern st s).pump = s.pump ∧
    (commandDrumPattern st s).link = s.link ∧ (commandDrumPattern st s).rq = s.rq ∧
    (commandDrumPattern st s).pending = s.pending ∧ (commandDrumPattern st s).freeCount = s.freeCount := by
  unfold commandDrumPattern; split <;> simp

@[simp] theorem enterDrumState_kept (st : DrumState) (s : State) :
    (enterDrumState st s).time = s.time ∧ (enterDrumState st s).drumCar = s.drumCar ∧
    (enterDrumState st s).pumpCar = s.pumpCar ∧ (enterDrumState st s).setup = s.setup ∧
    (enterDrumState st s).pumpGates = s.pumpGates ∧ (enterDrumState st s).input = s.input ∧
    (enterDrumState st s).sched = s.sched ∧ (enterDrumState st s).recon = s.recon ∧
    (enterDrumState st s).comm = s.comm ∧ (enterDrumState st s).pump = s.pump ∧ (enterDrumState st s).link = s.link ∧
    (enterDrumState st s).rq = s.rq ∧ (enterDrumState st s).pending = s.pending ∧
    (enterDrumState st s).freeCount = s.freeCount := by
  simp [enterDrumState]

@[simp] theorem changeDrum_kept (st : DrumState) (s : State) :
    (changeDrum st s).time = s.time ∧ (changeDrum st s).drumCar = s.drumCar ∧ (changeDrum st s).pumpCar = s.pumpCar ∧
    (changeDrum st s).setup = s.setup ∧ (changeDrum st s).pumpGates = s.pumpGates ∧
    (changeDrum st s).input = s.input ∧ (changeDrum st s).sched = s.sched ∧ (changeDrum st s).recon = s.recon ∧
    (changeDrum st s).comm = s.comm ∧ (changeDrum st s).pump = s.pump ∧ (changeDrum st s).pending = s.pending ∧
    (changeDrum st s).freeCount = s.freeCount := by
  simp [changeDrum]

@[simp] theorem takeDrumSnapshot_kept (x : DrumSnapshot) (s : State) :
    (takeDrumSnapshot x s).time = s.time ∧ (takeDrumSnapshot x s).drumCar = s.drumCar ∧
    (takeDrumSnapshot x s).pumpCar = s.pumpCar ∧ (takeDrumSnapshot x s).setup = s.setup ∧
    (takeDrumSnapshot x s).drumGates = s.drumGates ∧ (takeDrumSnapshot x s).pumpGates = s.pumpGates ∧
    (takeDrumSnapshot x s).input = s.input ∧ (takeDrumSnapshot x s).planner = s.planner ∧
    (takeDrumSnapshot x s).sched = s.sched ∧ (takeDrumSnapshot x s).recon = s.recon ∧
    (takeDrumSnapshot x s).comm = s.comm ∧ (takeDrumSnapshot x s).pump = s.pump ∧ (takeDrumSnapshot x s).rq = s.rq ∧
    (takeDrumSnapshot x s).pending = s.pending ∧ (takeDrumSnapshot x s).freeCount = s.freeCount := by
  unfold takeDrumSnapshot; split <;> simp

@[simp] theorem enterDrumSafe_kept (c : Cause) (s : State) :
    (enterDrumSafe c s).time = s.time ∧ (enterDrumSafe c s).drumCar = s.drumCar ∧
    (enterDrumSafe c s).pumpCar = s.pumpCar ∧ (enterDrumSafe c s).setup = s.setup ∧
    (enterDrumSafe c s).pumpGates = s.pumpGates ∧ (enterDrumSafe c s).input = s.input ∧
    (enterDrumSafe c s).sched = s.sched ∧ (enterDrumSafe c s).comm = s.comm ∧ (enterDrumSafe c s).pump = s.pump ∧
    (enterDrumSafe c s).pending = s.pending ∧ (enterDrumSafe c s).freeCount = s.freeCount := by
  simp [enterDrumSafe]

@[simp] theorem addDrumCause_kept (c : Cause) (s : State) :
    (addDrumCause c s).time = s.time ∧ (addDrumCause c s).drumCar = s.drumCar ∧
    (addDrumCause c s).pumpCar = s.pumpCar ∧ (addDrumCause c s).setup = s.setup ∧
    (addDrumCause c s).drumGates = s.drumGates ∧ (addDrumCause c s).pumpGates = s.pumpGates ∧
    (addDrumCause c s).input = s.input ∧ (addDrumCause c s).planner = s.planner ∧
    (addDrumCause c s).sched = s.sched ∧ (addDrumCause c s).recon = s.recon ∧ (addDrumCause c s).comm = s.comm ∧
    (addDrumCause c s).pump = s.pump ∧ (addDrumCause c s).link = s.link ∧ (addDrumCause c s).rq = s.rq ∧
    (addDrumCause c s).pending = s.pending ∧ (addDrumCause c s).freeCount = s.freeCount := by
  simp [addDrumCause]

@[simp] theorem drumGateFault_kept (s : State) :
    (drumGateFault s).time = s.time ∧ (drumGateFault s).drumCar = s.drumCar ∧ (drumGateFault s).pumpCar = s.pumpCar ∧
    (drumGateFault s).setup = s.setup ∧ (drumGateFault s).pumpGates = s.pumpGates ∧
    (drumGateFault s).input = s.input ∧ (drumGateFault s).sched = s.sched ∧ (drumGateFault s).comm = s.comm ∧
    (drumGateFault s).pump = s.pump ∧ (drumGateFault s).pending = s.pending ∧
    (drumGateFault s).freeCount = s.freeCount := by
  unfold drumGateFault; (repeat' split) <;> simp

@[simp] theorem drumPermitLost_kept (s : State) :
    (drumPermitLost s).time = s.time ∧ (drumPermitLost s).drumCar = s.drumCar ∧
    (drumPermitLost s).pumpCar = s.pumpCar ∧ (drumPermitLost s).setup = s.setup ∧
    (drumPermitLost s).pumpGates = s.pumpGates ∧ (drumPermitLost s).input = s.input ∧
    (drumPermitLost s).sched = s.sched ∧ (drumPermitLost s).comm = s.comm ∧ (drumPermitLost s).pump = s.pump ∧
    (drumPermitLost s).pending = s.pending ∧ (drumPermitLost s).freeCount = s.freeCount := by
  unfold drumPermitLost; (repeat' split) <;> simp

@[simp] theorem drumOverTemp_kept (s : State) :
    (drumOverTemp s).time = s.time ∧ (drumOverTemp s).drumCar = s.drumCar ∧ (drumOverTemp s).pumpCar = s.pumpCar ∧
    (drumOverTemp s).setup = s.setup ∧ (drumOverTemp s).pumpGates = s.pumpGates ∧ (drumOverTemp s).input = s.input ∧
    (drumOverTemp s).sched = s.sched ∧ (drumOverTemp s).comm = s.comm ∧ (drumOverTemp s).pump = s.pump ∧
    (drumOverTemp s).pending = s.pending ∧ (drumOverTemp s).freeCount = s.freeCount := by
  unfold drumOverTemp; (repeat' split) <;> simp

@[simp] theorem drumLinkBreak_kept (s : State) :
    (drumLinkBreak s).time = s.time ∧ (drumLinkBreak s).drumCar = s.drumCar ∧ (drumLinkBreak s).pumpCar = s.pumpCar ∧
    (drumLinkBreak s).setup = s.setup ∧ (drumLinkBreak s).pumpGates = s.pumpGates ∧
    (drumLinkBreak s).input = s.input ∧ (drumLinkBreak s).sched = s.sched ∧ (drumLinkBreak s).comm = s.comm ∧
    (drumLinkBreak s).pump = s.pump ∧ (drumLinkBreak s).pending = s.pending ∧
    (drumLinkBreak s).freeCount = s.freeCount := by
  unfold drumLinkBreak; (repeat' split) <;> simp

@[simp] theorem drumOvercurrent_kept (s : State) :
    (drumOvercurrent s).time = s.time ∧ (drumOvercurrent s).drumCar = s.drumCar ∧
    (drumOvercurrent s).pumpCar = s.pumpCar ∧ (drumOvercurrent s).setup = s.setup ∧
    (drumOvercurrent s).pumpGates = s.pumpGates ∧ (drumOvercurrent s).input = s.input ∧
    (drumOvercurrent s).sched = s.sched ∧ (drumOvercurrent s).comm = s.comm ∧ (drumOvercurrent s).pump = s.pump ∧
    (drumOvercurrent s).pending = s.pending ∧ (drumOvercurrent s).freeCount = s.freeCount := by
  unfold drumOvercurrent; (repeat' split) <;> simp

@[simp] theorem writeOffset_kept (m : Measurand) (n : Nat) (s : State) :
    (writeOffset m n s).time = s.time ∧ (writeOffset m n s).drumCar = s.drumCar ∧
    (writeOffset m n s).pumpCar = s.pumpCar ∧ (writeOffset m n s).setup = s.setup ∧
    (writeOffset m n s).drumGates = s.drumGates ∧ (writeOffset m n s).pumpGates = s.pumpGates ∧
    (writeOffset m n s).input = s.input ∧ (writeOffset m n s).planner = s.planner ∧
    (writeOffset m n s).recon = s.recon ∧ (writeOffset m n s).drum = s.drum ∧ (writeOffset m n s).comm = s.comm ∧
    (writeOffset m n s).pump = s.pump ∧ (writeOffset m n s).link = s.link ∧ (writeOffset m n s).rq = s.rq ∧
    (writeOffset m n s).pending = s.pending ∧ (writeOffset m n s).freeCount = s.freeCount := by
  unfold writeOffset; split <;> simp

@[simp] theorem endDrumCalibration_kept (s : State) :
    (endDrumCalibration s).time = s.time ∧ (endDrumCalibration s).drumCar = s.drumCar ∧
    (endDrumCalibration s).pumpCar = s.pumpCar ∧ (endDrumCalibration s).setup = s.setup ∧
    (endDrumCalibration s).pumpGates = s.pumpGates ∧ (endDrumCalibration s).input = s.input ∧
    (endDrumCalibration s).comm = s.comm ∧ (endDrumCalibration s).pump = s.pump ∧
    (endDrumCalibration s).pending = s.pending ∧ (endDrumCalibration s).freeCount = s.freeCount := by
  unfold endDrumCalibration; simp only; split <;> simp

@[simp] theorem drumCalibrationCode_kept (p : Word) (raw : Code) (s : State) :
    (drumCalibrationCode p raw s).time = s.time ∧ (drumCalibrationCode p raw s).drumCar = s.drumCar ∧
    (drumCalibrationCode p raw s).pumpCar = s.pumpCar ∧ (drumCalibrationCode p raw s).setup = s.setup ∧
    (drumCalibrationCode p raw s).pumpGates = s.pumpGates ∧ (drumCalibrationCode p raw s).input = s.input ∧
    (drumCalibrationCode p raw s).comm = s.comm ∧ (drumCalibrationCode p raw s).pump = s.pump ∧
    (drumCalibrationCode p raw s).pending = s.pending ∧ (drumCalibrationCode p raw s).freeCount = s.freeCount := by
  unfold drumCalibrationCode; simp only; (repeat' split) <;> simp

end Sys2Proof.Machine
end

