-- ==== Sys2Proof/Laws/Link.lean ====
section
/-! SUPPORT. What an edge of LCLK can change: parts of State it leaves as they were, and of the Link Port. -/

namespace Sys2Proof.Machine

@[simp] theorem takeLinkEdge_kept (e : LinkEdge) (fr : FrameInProgress) (s : State) :
    (takeLinkEdge e fr s).time = s.time ∧ (takeLinkEdge e fr s).drumCar = s.drumCar ∧
    (takeLinkEdge e fr s).pumpCar = s.pumpCar ∧ (takeLinkEdge e fr s).setup = s.setup ∧
    (takeLinkEdge e fr s).drumGates = s.drumGates ∧ (takeLinkEdge e fr s).pumpGates = s.pumpGates ∧
    (takeLinkEdge e fr s).input = s.input ∧ (takeLinkEdge e fr s).planner = s.planner ∧
    (takeLinkEdge e fr s).sched = s.sched ∧ (takeLinkEdge e fr s).recon = s.recon ∧
    (takeLinkEdge e fr s).drum = s.drum ∧ (takeLinkEdge e fr s).comm = s.comm ∧ (takeLinkEdge e fr s).pump = s.pump ∧
    (takeLinkEdge e fr s).rq = s.rq ∧ (takeLinkEdge e fr s).pending = s.pending ∧
    (takeLinkEdge e fr s).freeCount = s.freeCount := by
  cases e <;> simp only [takeLinkEdge] <;> split <;> simp

/-- Of the Link Port, an edge of LCLK moves the bit count, the receive shift register and LDO alone (R145). -/
theorem takeLinkEdge_link (e : LinkEdge) (fr : FrameInProgress) (s : State) :
    ∃ (count : Nat) (shift : BitVec 128) (ldo : Bool),
      (takeLinkEdge e fr s).link = { s.link with bitCount := count, shift := shift, ldo := ldo } := by
  cases e <;> simp only [takeLinkEdge] <;> split <;> exact ⟨_, _, _, rfl⟩

end Sys2Proof.Machine
end

