-- ==== Sys2Proof/Laws/Pump.lean ====
section
/-! SUPPORT. What the Pump Commutator and Pump State Control can change: for each operation the parts of State it leaves as they were (`_kept`), and its effect. -/

namespace Sys2Proof.Machine

@[simp] theorem commandStep_kept (s : State) :
    (commandStep s).time = s.time ∧ (commandStep s).drumCar = s.drumCar ∧ (commandStep s).pumpCar = s.pumpCar ∧
    (commandStep s).setup = s.setup ∧ (commandStep s).drumGates = s.drumGates ∧ (commandStep s).input = s.input ∧
    (commandStep s).planner = s.planner ∧ (commandStep s).sched = s.sched ∧ (commandStep s).recon = s.recon ∧
    (commandStep s).drum = s.drum ∧ (commandStep s).comm = s.comm ∧ (commandStep s).pump = s.pump ∧
    (commandStep s).link = s.link ∧ (commandStep s).rq = s.rq ∧ (commandStep s).pending = s.pending ∧
    (commandStep s).freeCount = s.freeCount := by
  simp [commandStep]

@[simp] theorem clearCurrent_kept (s : State) :
    (clearCurrent s).time = s.time ∧ (clearCurrent s).drumCar = s.drumCar ∧ (clearCurrent s).pumpCar = s.pumpCar ∧
    (clearCurrent s).setup = s.setup ∧ (clearCurrent s).drumGates = s.drumGates ∧
    (clearCurrent s).pumpGates = s.pumpGates ∧ (clearCurrent s).input = s.input ∧
    (clearCurrent s).planner = s.planner ∧ (clearCurrent s).sched = s.sched ∧ (clearCurrent s).recon = s.recon ∧
    (clearCurrent s).drum = s.drum ∧ (clearCurrent s).comm = s.comm ∧ (clearCurrent s).link = s.link ∧
    (clearCurrent s).rq = s.rq ∧ (clearCurrent s).pending = s.pending ∧
    (clearCurrent s).freeCount = s.freeCount := by
  simp [clearCurrent]

@[simp] theorem stopPump_kept (st : PumpState) (s : State) :
    (stopPump st s).time = s.time ∧ (stopPump st s).drumCar = s.drumCar ∧ (stopPump st s).pumpCar = s.pumpCar ∧
    (stopPump st s).setup = s.setup ∧ (stopPump st s).drumGates = s.drumGates ∧ (stopPump st s).input = s.input ∧
    (stopPump st s).planner = s.planner ∧ (stopPump st s).sched = s.sched ∧ (stopPump st s).recon = s.recon ∧
    (stopPump st s).drum = s.drum ∧ (stopPump st s).link = s.link ∧ (stopPump st s).rq = s.rq ∧
    (stopPump st s).pending = s.pending ∧ (stopPump st s).freeCount = s.freeCount := by
  simp [stopPump]

@[simp] theorem pumpOff_kept (s : State) :
    (pumpOff s).time = s.time ∧ (pumpOff s).drumCar = s.drumCar ∧ (pumpOff s).pumpCar = s.pumpCar ∧
    (pumpOff s).setup = s.setup ∧ (pumpOff s).drumGates = s.drumGates ∧ (pumpOff s).input = s.input ∧
    (pumpOff s).planner = s.planner ∧ (pumpOff s).sched = s.sched ∧ (pumpOff s).recon = s.recon ∧
    (pumpOff s).drum = s.drum ∧ (pumpOff s).pending = s.pending ∧ (pumpOff s).freeCount = s.freeCount := by
  simp [pumpOff, pumpStateNotice]

@[simp] theorem enterPumpOffset_kept (s : State) :
    (enterPumpOffset s).time = s.time ∧ (enterPumpOffset s).drumCar = s.drumCar ∧
    (enterPumpOffset s).pumpCar = s.pumpCar ∧ (enterPumpOffset s).setup = s.setup ∧
    (enterPumpOffset s).drumGates = s.drumGates ∧ (enterPumpOffset s).input = s.input ∧
    (enterPumpOffset s).planner = s.planner ∧ (enterPumpOffset s).sched = s.sched ∧
    (enterPumpOffset s).recon = s.recon ∧ (enterPumpOffset s).drum = s.drum ∧
    (enterPumpOffset s).pending = s.pending ∧ (enterPumpOffset s).freeCount = s.freeCount := by
  simp [enterPumpOffset, pumpStateNotice]

@[simp] theorem enterAlign_kept (s : State) :
    (enterAlign s).time = s.time ∧ (enterAlign s).drumCar = s.drumCar ∧ (enterAlign s).pumpCar = s.pumpCar ∧
    (enterAlign s).setup = s.setup ∧ (enterAlign s).drumGates = s.drumGates ∧ (enterAlign s).input = s.input ∧
    (enterAlign s).planner = s.planner ∧ (enterAlign s).sched = s.sched ∧ (enterAlign s).recon = s.recon ∧
    (enterAlign s).drum = s.drum ∧ (enterAlign s).pending = s.pending ∧ (enterAlign s).freeCount = s.freeCount := by
  simp [enterAlign, pumpStateNotice]

@[simp] theorem enterRamp_kept (s : State) :
    (enterRamp s).time = s.time ∧ (enterRamp s).drumCar = s.drumCar ∧ (enterRamp s).pumpCar = s.pumpCar ∧
    (enterRamp s).setup = s.setup ∧ (enterRamp s).drumGates = s.drumGates ∧ (enterRamp s).pumpGates = s.pumpGates ∧
    (enterRamp s).input = s.input ∧ (enterRamp s).planner = s.planner ∧ (enterRamp s).sched = s.sched ∧
    (enterRamp s).recon = s.recon ∧ (enterRamp s).drum = s.drum ∧ (enterRamp s).pending = s.pending ∧
    (enterRamp s).freeCount = s.freeCount := by
  simp [enterRamp, pumpStateNotice]

@[simp] theorem enterClosed_kept (d : Word) (s : State) :
    (enterClosed d s).time = s.time ∧ (enterClosed d s).drumCar = s.drumCar ∧ (enterClosed d s).pumpCar = s.pumpCar ∧
    (enterClosed d s).setup = s.setup ∧ (enterClosed d s).drumGates = s.drumGates ∧
    (enterClosed d s).pumpGates = s.pumpGates ∧ (enterClosed d s).input = s.input ∧
    (enterClosed d s).planner = s.planner ∧ (enterClosed d s).sched = s.sched ∧ (enterClosed d s).recon = s.recon ∧
    (enterClosed d s).drum = s.drum ∧ (enterClosed d s).comm = s.comm ∧ (enterClosed d s).pending = s.pending ∧
    (enterClosed d s).freeCount = s.freeCount := by
  simp [enterClosed, pumpStateNotice]

@[simp] theorem takePumpSnapshot_kept (x : PumpSnapshot) (s : State) :
    (takePumpSnapshot x s).time = s.time ∧ (takePumpSnapshot x s).drumCar = s.drumCar ∧
    (takePumpSnapshot x s).pumpCar = s.pumpCar ∧ (takePumpSnapshot x s).setup = s.setup ∧
    (takePumpSnapshot x s).drumGates = s.drumGates ∧ (takePumpSnapshot x s).pumpGates = s.pumpGates ∧
    (takePumpSnapshot x s).input = s.input ∧ (takePumpSnapshot x s).planner = s.planner ∧
    (takePumpSnapshot x s).sched = s.sched ∧ (takePumpSnapshot x s).recon = s.recon ∧
    (takePumpSnapshot x s).drum = s.drum ∧ (takePumpSnapshot x s).comm = s.comm ∧ (takePumpSnapshot x s).rq = s.rq ∧
    (takePumpSnapshot x s).pending = s.pending ∧ (takePumpSnapshot x s).freeCount = s.freeCount := by
  unfold takePumpSnapshot; split <;> simp

@[simp] theorem enterPumpSafe_kept (c : Cause) (s : State) :
    (enterPumpSafe c s).time = s.time ∧ (enterPumpSafe c s).drumCar = s.drumCar ∧
    (enterPumpSafe c s).pumpCar = s.pumpCar ∧ (enterPumpSafe c s).setup = s.setup ∧
    (enterPumpSafe c s).drumGates = s.drumGates ∧ (enterPumpSafe c s).input = s.input ∧
    (enterPumpSafe c s).planner = s.planner ∧ (enterPumpSafe c s).sched = s.sched ∧
    (enterPumpSafe c s).recon = s.recon ∧ (enterPumpSafe c s).drum = s.drum ∧
    (enterPumpSafe c s).pending = s.pending ∧ (enterPumpSafe c s).freeCount = s.freeCount := by
  simp [enterPumpSafe]

@[simp] theorem addPumpCause_kept (c : Cause) (s : State) :
    (addPumpCause c s).time = s.time ∧ (addPumpCause c s).drumCar = s.drumCar ∧
    (addPumpCause c s).pumpCar = s.pumpCar ∧ (addPumpCause c s).setup = s.setup ∧
    (addPumpCause c s).drumGates = s.drumGates ∧ (addPumpCause c s).pumpGates = s.pumpGates ∧
    (addPumpCause c s).input = s.input ∧ (addPumpCause c s).planner = s.planner ∧
    (addPumpCause c s).sched = s.sched ∧ (addPumpCause c s).recon = s.recon ∧ (addPumpCause c s).drum = s.drum ∧
    (addPumpCause c s).comm = s.comm ∧ (addPumpCause c s).link = s.link ∧ (addPumpCause c s).rq = s.rq ∧
    (addPumpCause c s).pending = s.pending ∧ (addPumpCause c s).freeCount = s.freeCount := by
  simp [addPumpCause]

@[simp] theorem pumpGateFault_kept (s : State) :
    (pumpGateFault s).time = s.time ∧ (pumpGateFault s).drumCar = s.drumCar ∧ (pumpGateFault s).pumpCar = s.pumpCar ∧
    (pumpGateFault s).setup = s.setup ∧ (pumpGateFault s).drumGates = s.drumGates ∧
    (pumpGateFault s).input = s.input ∧ (pumpGateFault s).planner = s.planner ∧ (pumpGateFault s).sched = s.sched ∧
    (pumpGateFault s).recon = s.recon ∧ (pumpGateFault s).drum = s.drum ∧ (pumpGateFault s).pending = s.pending ∧
    (pumpGateFault s).freeCount = s.freeCount := by
  unfold pumpGateFault; (repeat' split) <;> simp

@[simp] theorem pumpPermitLost_kept (s : State) :
    (pumpPermitLost s).time = s.time ∧ (pumpPermitLost s).drumCar = s.drumCar ∧
    (pumpPermitLost s).pumpCar = s.pumpCar ∧ (pumpPermitLost s).setup = s.setup ∧
    (pumpPermitLost s).drumGates = s.drumGates ∧ (pumpPermitLost s).input = s.input ∧
    (pumpPermitLost s).planner = s.planner ∧ (pumpPermitLost s).sched = s.sched ∧
    (pumpPermitLost s).recon = s.recon ∧ (pumpPermitLost s).drum = s.drum ∧ (pumpPermitLost s).pending = s.pending ∧
    (pumpPermitLost s).freeCount = s.freeCount := by
  unfold pumpPermitLost; (repeat' split) <;> simp

@[simp] theorem pumpOverTemp_kept (s : State) :
    (pumpOverTemp s).time = s.time ∧ (pumpOverTemp s).drumCar = s.drumCar ∧ (pumpOverTemp s).pumpCar = s.pumpCar ∧
    (pumpOverTemp s).setup = s.setup ∧ (pumpOverTemp s).drumGates = s.drumGates ∧ (pumpOverTemp s).input = s.input ∧
    (pumpOverTemp s).planner = s.planner ∧ (pumpOverTemp s).sched = s.sched ∧ (pumpOverTemp s).recon = s.recon ∧
    (pumpOverTemp s).drum = s.drum ∧ (pumpOverTemp s).pending = s.pending ∧
    (pumpOverTemp s).freeCount = s.freeCount := by
  unfold pumpOverTemp; (repeat' split) <;> simp

@[simp] theorem pumpLinkBreak_kept (s : State) :
    (pumpLinkBreak s).time = s.time ∧ (pumpLinkBreak s).drumCar = s.drumCar ∧ (pumpLinkBreak s).pumpCar = s.pumpCar ∧
    (pumpLinkBreak s).setup = s.setup ∧ (pumpLinkBreak s).drumGates = s.drumGates ∧
    (pumpLinkBreak s).input = s.input ∧ (pumpLinkBreak s).planner = s.planner ∧ (pumpLinkBreak s).sched = s.sched ∧
    (pumpLinkBreak s).recon = s.recon ∧ (pumpLinkBreak s).drum = s.drum ∧ (pumpLinkBreak s).pending = s.pending ∧
    (pumpLinkBreak s).freeCount = s.freeCount := by
  unfold pumpLinkBreak; (repeat' split) <;> simp

@[simp] theorem reportStep_kept (k : StepKind) (s : State) :
    (reportStep k s).time = s.time ∧ (reportStep k s).drumCar = s.drumCar ∧ (reportStep k s).pumpCar = s.pumpCar ∧
    (reportStep k s).setup = s.setup ∧ (reportStep k s).drumGates = s.drumGates ∧
    (reportStep k s).pumpGates = s.pumpGates ∧ (reportStep k s).input = s.input ∧
    (reportStep k s).planner = s.planner ∧ (reportStep k s).sched = s.sched ∧ (reportStep k s).recon = s.recon ∧
    (reportStep k s).drum = s.drum ∧ (reportStep k s).comm = s.comm ∧ (reportStep k s).pump = s.pump ∧
    (reportStep k s).pending = s.pending ∧ (reportStep k s).freeCount = s.freeCount := by
  unfold reportStep; split <;> simp

@[simp] theorem commutate_kept (k : StepKind) (v : Option Tick) (s : State) :
    (commutate k v s).time = s.time ∧ (commutate k v s).drumCar = s.drumCar ∧ (commutate k v s).pumpCar = s.pumpCar ∧
    (commutate k v s).setup = s.setup ∧ (commutate k v s).drumGates = s.drumGates ∧
    (commutate k v s).input = s.input ∧ (commutate k v s).planner = s.planner ∧ (commutate k v s).sched = s.sched ∧
    (commutate k v s).recon = s.recon ∧ (commutate k v s).drum = s.drum ∧ (commutate k v s).pending = s.pending ∧
    (commutate k v s).freeCount = s.freeCount := by
  simp [commutate]

@[simp] theorem timeCommutation_kept (z : Tick) (s : State) :
    (timeCommutation z s).time = s.time ∧ (timeCommutation z s).drumCar = s.drumCar ∧
    (timeCommutation z s).pumpCar = s.pumpCar ∧ (timeCommutation z s).setup = s.setup ∧
    (timeCommutation z s).drumGates = s.drumGates ∧ (timeCommutation z s).input = s.input ∧
    (timeCommutation z s).planner = s.planner ∧ (timeCommutation z s).sched = s.sched ∧
    (timeCommutation z s).recon = s.recon ∧ (timeCommutation z s).drum = s.drum ∧
    (timeCommutation z s).pending = s.pending ∧ (timeCommutation z s).freeCount = s.freeCount := by
  unfold timeCommutation; simp only; split <;> simp

@[simp] theorem countStable_kept (i : Option Nat) (s : State) :
    (countStable i s).time = s.time ∧ (countStable i s).drumCar = s.drumCar ∧ (countStable i s).pumpCar = s.pumpCar ∧
    (countStable i s).setup = s.setup ∧ (countStable i s).drumGates = s.drumGates ∧
    (countStable i s).pumpGates = s.pumpGates ∧ (countStable i s).input = s.input ∧
    (countStable i s).planner = s.planner ∧ (countStable i s).sched = s.sched ∧ (countStable i s).recon = s.recon ∧
    (countStable i s).drum = s.drum ∧ (countStable i s).comm = s.comm ∧ (countStable i s).pending = s.pending ∧
    (countStable i s).freeCount = s.freeCount := by
  unfold countStable; simp only; (repeat' split) <;> simp

@[simp] theorem acceptCrossing_kept (z : Tick) (s : State) :
    (acceptCrossing z s).time = s.time ∧ (acceptCrossing z s).drumCar = s.drumCar ∧
    (acceptCrossing z s).pumpCar = s.pumpCar ∧ (acceptCrossing z s).setup = s.setup ∧
    (acceptCrossing z s).drumGates = s.drumGates ∧ (acceptCrossing z s).input = s.input ∧
    (acceptCrossing z s).planner = s.planner ∧ (acceptCrossing z s).sched = s.sched ∧
    (acceptCrossing z s).recon = s.recon ∧ (acceptCrossing z s).drum = s.drum ∧
    (acceptCrossing z s).pending = s.pending ∧ (acceptCrossing z s).freeCount = s.freeCount := by
  unfold acceptCrossing; simp only; (repeat' split) <;> simp

@[simp] theorem advanceRamp_kept (s : State) :
    (advanceRamp s).time = s.time ∧ (advanceRamp s).drumCar = s.drumCar ∧ (advanceRamp s).pumpCar = s.pumpCar ∧
    (advanceRamp s).setup = s.setup ∧ (advanceRamp s).drumGates = s.drumGates ∧ (advanceRamp s).input = s.input ∧
    (advanceRamp s).planner = s.planner ∧ (advanceRamp s).sched = s.sched ∧ (advanceRamp s).recon = s.recon ∧
    (advanceRamp s).drum = s.drum ∧ (advanceRamp s).pending = s.pending ∧
    (advanceRamp s).freeCount = s.freeCount := by
  unfold advanceRamp; simp only; (repeat' split) <;> simp

@[simp] theorem rampCommutation_kept (s : State) :
    (rampCommutation s).time = s.time ∧ (rampCommutation s).drumCar = s.drumCar ∧
    (rampCommutation s).pumpCar = s.pumpCar ∧ (rampCommutation s).setup = s.setup ∧
    (rampCommutation s).drumGates = s.drumGates ∧ (rampCommutation s).input = s.input ∧
    (rampCommutation s).planner = s.planner ∧ (rampCommutation s).sched = s.sched ∧
    (rampCommutation s).recon = s.recon ∧ (rampCommutation s).drum = s.drum ∧
    (rampCommutation s).pending = s.pending ∧ (rampCommutation s).freeCount = s.freeCount := by
  unfold rampCommutation; simp only; split <;> simp

@[simp] theorem zcMissNotice_kept (b : Bool) (i : Fin 6) (s : State) :
    (zcMissNotice b i s).time = s.time ∧ (zcMissNotice b i s).drumCar = s.drumCar ∧
    (zcMissNotice b i s).pumpCar = s.pumpCar ∧ (zcMissNotice b i s).setup = s.setup ∧
    (zcMissNotice b i s).drumGates = s.drumGates ∧ (zcMissNotice b i s).pumpGates = s.pumpGates ∧
    (zcMissNotice b i s).input = s.input ∧ (zcMissNotice b i s).planner = s.planner ∧
    (zcMissNotice b i s).sched = s.sched ∧ (zcMissNotice b i s).recon = s.recon ∧
    (zcMissNotice b i s).drum = s.drum ∧ (zcMissNotice b i s).comm = s.comm ∧ (zcMissNotice b i s).pump = s.pump ∧
    (zcMissNotice b i s).pending = s.pending ∧ (zcMissNotice b i s).freeCount = s.freeCount := by
  unfold zcMissNotice; split <;> simp

@[simp] theorem takeTimeout_kept (d : Tick) (s : State) :
    (takeTimeout d s).time = s.time ∧ (takeTimeout d s).drumCar = s.drumCar ∧ (takeTimeout d s).pumpCar = s.pumpCar ∧
    (takeTimeout d s).setup = s.setup ∧ (takeTimeout d s).drumGates = s.drumGates ∧
    (takeTimeout d s).input = s.input ∧ (takeTimeout d s).planner = s.planner ∧ (takeTimeout d s).sched = s.sched ∧
    (takeTimeout d s).recon = s.recon ∧ (takeTimeout d s).drum = s.drum ∧ (takeTimeout d s).pending = s.pending ∧
    (takeTimeout d s).freeCount = s.freeCount := by
  unfold takeTimeout; simp only; split <;> simp

@[simp] theorem addSample_kept (v : Int) (s : State) :
    (addSample v s).time = s.time ∧ (addSample v s).drumCar = s.drumCar ∧ (addSample v s).pumpCar = s.pumpCar ∧
    (addSample v s).setup = s.setup ∧ (addSample v s).drumGates = s.drumGates ∧
    (addSample v s).pumpGates = s.pumpGates ∧ (addSample v s).input = s.input ∧ (addSample v s).planner = s.planner ∧
    (addSample v s).sched = s.sched ∧ (addSample v s).recon = s.recon ∧ (addSample v s).drum = s.drum ∧
    (addSample v s).comm = s.comm ∧ (addSample v s).link = s.link ∧ (addSample v s).rq = s.rq ∧
    (addSample v s).pending = s.pending ∧ (addSample v s).freeCount = s.freeCount := by
  unfold addSample; split <;> simp

@[simp] theorem currentSample_kept (raw : Code) (v : Int) (s : State) :
    (currentSample raw v s).time = s.time ∧ (currentSample raw v s).drumCar = s.drumCar ∧
    (currentSample raw v s).pumpCar = s.pumpCar ∧ (currentSample raw v s).setup = s.setup ∧
    (currentSample raw v s).drumGates = s.drumGates ∧ (currentSample raw v s).input = s.input ∧
    (currentSample raw v s).planner = s.planner ∧ (currentSample raw v s).sched = s.sched ∧
    (currentSample raw v s).recon = s.recon ∧ (currentSample raw v s).drum = s.drum ∧
    (currentSample raw v s).pending = s.pending ∧ (currentSample raw v s).freeCount = s.freeCount := by
  unfold currentSample; simp only; (repeat' split) <;> simp

@[simp] theorem endPumpCalibration_kept (s : State) :
    (endPumpCalibration s).time = s.time ∧ (endPumpCalibration s).drumCar = s.drumCar ∧
    (endPumpCalibration s).pumpCar = s.pumpCar ∧ (endPumpCalibration s).setup = s.setup ∧
    (endPumpCalibration s).drumGates = s.drumGates ∧ (endPumpCalibration s).input = s.input ∧
    (endPumpCalibration s).planner = s.planner ∧ (endPumpCalibration s).recon = s.recon ∧
    (endPumpCalibration s).drum = s.drum ∧ (endPumpCalibration s).pending = s.pending ∧
    (endPumpCalibration s).freeCount = s.freeCount := by
  unfold endPumpCalibration; simp only; (repeat' split) <;> simp

@[simp] theorem pumpCalibrationCode_kept (p : Word) (raw : Code) (s : State) :
    (pumpCalibrationCode p raw s).time = s.time ∧ (pumpCalibrationCode p raw s).drumCar = s.drumCar ∧
    (pumpCalibrationCode p raw s).pumpCar = s.pumpCar ∧ (pumpCalibrationCode p raw s).setup = s.setup ∧
    (pumpCalibrationCode p raw s).drumGates = s.drumGates ∧ (pumpCalibrationCode p raw s).input = s.input ∧
    (pumpCalibrationCode p raw s).planner = s.planner ∧ (pumpCalibrationCode p raw s).recon = s.recon ∧
    (pumpCalibrationCode p raw s).drum = s.drum ∧ (pumpCalibrationCode p raw s).pending = s.pending ∧
    (pumpCalibrationCode p raw s).freeCount = s.freeCount := by
  unfold pumpCalibrationCode; simp only; (repeat' split) <;> simp

@[simp] theorem pumpShuntCode_kept (p : Word) (t : Tick) (raw : Code) (v : Int) (s : State) :
    (pumpShuntCode p t raw v s).time = s.time ∧ (pumpShuntCode p t raw v s).drumCar = s.drumCar ∧
    (pumpShuntCode p t raw v s).pumpCar = s.pumpCar ∧ (pumpShuntCode p t raw v s).setup = s.setup ∧
    (pumpShuntCode p t raw v s).drumGates = s.drumGates ∧ (pumpShuntCode p t raw v s).input = s.input ∧
    (pumpShuntCode p t raw v s).planner = s.planner ∧ (pumpShuntCode p t raw v s).recon = s.recon ∧
    (pumpShuntCode p t raw v s).drum = s.drum ∧ (pumpShuntCode p t raw v s).pending = s.pending ∧
    (pumpShuntCode p t raw v s).freeCount = s.freeCount := by
  unfold pumpShuntCode; (repeat' split) <;> simp

@[simp] theorem breakRun_kept (s : State) :
    (breakRun s).time = s.time ∧ (breakRun s).drumCar = s.drumCar ∧ (breakRun s).pumpCar = s.pumpCar ∧
    (breakRun s).setup = s.setup ∧ (breakRun s).drumGates = s.drumGates ∧ (breakRun s).pumpGates = s.pumpGates ∧
    (breakRun s).input = s.input ∧ (breakRun s).planner = s.planner ∧ (breakRun s).sched = s.sched ∧
    (breakRun s).recon = s.recon ∧ (breakRun s).drum = s.drum ∧ (breakRun s).pump = s.pump ∧
    (breakRun s).link = s.link ∧ (breakRun s).rq = s.rq ∧ (breakRun s).pending = s.pending ∧
    (breakRun s).freeCount = s.freeCount := by
  simp [breakRun]

@[simp] theorem examineCode_kept (t : Tick) (v : Int) (s : State) :
    (examineCode t v s).time = s.time ∧ (examineCode t v s).drumCar = s.drumCar ∧
    (examineCode t v s).pumpCar = s.pumpCar ∧ (examineCode t v s).setup = s.setup ∧
    (examineCode t v s).drumGates = s.drumGates ∧ (examineCode t v s).input = s.input ∧
    (examineCode t v s).planner = s.planner ∧ (examineCode t v s).sched = s.sched ∧
    (examineCode t v s).recon = s.recon ∧ (examineCode t v s).drum = s.drum ∧
    (examineCode t v s).pending = s.pending ∧ (examineCode t v s).freeCount = s.freeCount := by
  unfold examineCode; simp only; (repeat' split) <;> simp

@[simp] theorem floatingCode_kept (p : Word) (t : Tick) (v : Int) (s : State) :
    (floatingCode p t v s).time = s.time ∧ (floatingCode p t v s).drumCar = s.drumCar ∧
    (floatingCode p t v s).pumpCar = s.pumpCar ∧ (floatingCode p t v s).setup = s.setup ∧
    (floatingCode p t v s).drumGates = s.drumGates ∧ (floatingCode p t v s).input = s.input ∧
    (floatingCode p t v s).planner = s.planner ∧ (floatingCode p t v s).sched = s.sched ∧
    (floatingCode p t v s).recon = s.recon ∧ (floatingCode p t v s).drum = s.drum ∧
    (floatingCode p t v s).pending = s.pending ∧ (floatingCode p t v s).freeCount = s.freeCount := by
  unfold floatingCode; split <;> simp

@[simp] theorem floatingLost_kept (p : Word) (r : LostReason) (s : State) :
    (floatingLost p r s).time = s.time ∧ (floatingLost p r s).drumCar = s.drumCar ∧
    (floatingLost p r s).pumpCar = s.pumpCar ∧ (floatingLost p r s).setup = s.setup ∧
    (floatingLost p r s).drumGates = s.drumGates ∧ (floatingLost p r s).pumpGates = s.pumpGates ∧
    (floatingLost p r s).input = s.input ∧ (floatingLost p r s).planner = s.planner ∧
    (floatingLost p r s).sched = s.sched ∧ (floatingLost p r s).recon = s.recon ∧
    (floatingLost p r s).drum = s.drum ∧ (floatingLost p r s).pump = s.pump ∧ (floatingLost p r s).link = s.link ∧
    (floatingLost p r s).rq = s.rq ∧ (floatingLost p r s).pending = s.pending ∧
    (floatingLost p r s).freeCount = s.freeCount := by
  unfold floatingLost; split <;> simp

end Sys2Proof.Machine
end

