-- ==== Sys2Proof/Laws/Reconstructor.lean ====
section
/-! SUPPORT. What the Drum Reconstructor can change: for each operation the parts of State it leaves as they were (`_kept`), and its effect. -/

namespace Sys2Proof.Machine

@[simp] theorem fileOutcome_kept (o : ConversionOutcome) (s : State) :
    (fileOutcome o s).time = s.time ∧ (fileOutcome o s).drumCar = s.drumCar ∧ (fileOutcome o s).pumpCar = s.pumpCar ∧
    (fileOutcome o s).setup = s.setup ∧ (fileOutcome o s).drumGates = s.drumGates ∧
    (fileOutcome o s).pumpGates = s.pumpGates ∧ (fileOutcome o s).input = s.input ∧
    (fileOutcome o s).planner = s.planner ∧ (fileOutcome o s).sched = s.sched ∧ (fileOutcome o s).drum = s.drum ∧
    (fileOutcome o s).comm = s.comm ∧ (fileOutcome o s).pump = s.pump ∧ (fileOutcome o s).link = s.link ∧
    (fileOutcome o s).rq = s.rq ∧ (fileOutcome o s).pending = s.pending ∧
    (fileOutcome o s).freeCount = s.freeCount := by
  simp [fileOutcome]

@[simp] theorem busHighCheck_kept (p : Word) (v : Nat) (s : State) :
    (busHighCheck p v s).time = s.time ∧ (busHighCheck p v s).drumCar = s.drumCar ∧
    (busHighCheck p v s).pumpCar = s.pumpCar ∧ (busHighCheck p v s).setup = s.setup ∧
    (busHighCheck p v s).drumGates = s.drumGates ∧ (busHighCheck p v s).pumpGates = s.pumpGates ∧
    (busHighCheck p v s).input = s.input ∧ (busHighCheck p v s).planner = s.planner ∧
    (busHighCheck p v s).sched = s.sched ∧ (busHighCheck p v s).drum = s.drum ∧ (busHighCheck p v s).comm = s.comm ∧
    (busHighCheck p v s).pump = s.pump ∧ (busHighCheck p v s).pending = s.pending ∧
    (busHighCheck p v s).freeCount = s.freeCount := by
  unfold busHighCheck; simp only; (repeat' split) <;> simp

@[simp] theorem overTempCheck_kept (m : Motor) (v : Nat) (s : State) :
    (overTempCheck m v s).time = s.time ∧ (overTempCheck m v s).drumCar = s.drumCar ∧
    (overTempCheck m v s).pumpCar = s.pumpCar ∧ (overTempCheck m v s).setup = s.setup ∧
    (overTempCheck m v s).input = s.input ∧ (overTempCheck m v s).sched = s.sched ∧
    (overTempCheck m v s).pending = s.pending ∧ (overTempCheck m v s).freeCount = s.freeCount := by
  unfold overTempCheck; simp only; (repeat' split) <;> (try cases m) <;> simp [bothMotors]

@[simp] theorem reportPeriod_kept (e : PeriodEntry) (b : Bool) (s : State) :
    (reportPeriod e b s).time = s.time ∧ (reportPeriod e b s).drumCar = s.drumCar ∧
    (reportPeriod e b s).pumpCar = s.pumpCar ∧ (reportPeriod e b s).setup = s.setup ∧
    (reportPeriod e b s).drumGates = s.drumGates ∧ (reportPeriod e b s).pumpGates = s.pumpGates ∧
    (reportPeriod e b s).input = s.input ∧ (reportPeriod e b s).planner = s.planner ∧
    (reportPeriod e b s).sched = s.sched ∧ (reportPeriod e b s).recon = s.recon ∧
    (reportPeriod e b s).drum = s.drum ∧ (reportPeriod e b s).comm = s.comm ∧ (reportPeriod e b s).pump = s.pump ∧
    (reportPeriod e b s).pending = s.pending ∧ (reportPeriod e b s).freeCount = s.freeCount := by
  unfold reportPeriod; split <;> simp

@[simp] theorem closeFresh_kept (e : PeriodEntry) (a b : Code) (v w : Int) (s : State) :
    (closeFresh e a b v w s).time = s.time ∧ (closeFresh e a b v w s).drumCar = s.drumCar ∧
    (closeFresh e a b v w s).pumpCar = s.pumpCar ∧ (closeFresh e a b v w s).setup = s.setup ∧
    (closeFresh e a b v w s).drumGates = s.drumGates ∧ (closeFresh e a b v w s).pumpGates = s.pumpGates ∧
    (closeFresh e a b v w s).input = s.input ∧ (closeFresh e a b v w s).planner = s.planner ∧
    (closeFresh e a b v w s).sched = s.sched ∧ (closeFresh e a b v w s).drum = s.drum ∧
    (closeFresh e a b v w s).comm = s.comm ∧ (closeFresh e a b v w s).pump = s.pump ∧
    (closeFresh e a b v w s).pending = s.pending ∧ (closeFresh e a b v w s).freeCount = s.freeCount := by
  simp [closeFresh]

@[simp] theorem blindNotice_kept (e : PeriodEntry) (b : Bool) (s : State) :
    (blindNotice e b s).time = s.time ∧ (blindNotice e b s).drumCar = s.drumCar ∧
    (blindNotice e b s).pumpCar = s.pumpCar ∧ (blindNotice e b s).setup = s.setup ∧
    (blindNotice e b s).drumGates = s.drumGates ∧ (blindNotice e b s).pumpGates = s.pumpGates ∧
    (blindNotice e b s).input = s.input ∧ (blindNotice e b s).planner = s.planner ∧
    (blindNotice e b s).sched = s.sched ∧ (blindNotice e b s).recon = s.recon ∧ (blindNotice e b s).drum = s.drum ∧
    (blindNotice e b s).comm = s.comm ∧ (blindNotice e b s).pump = s.pump ∧ (blindNotice e b s).pending = s.pending ∧
    (blindNotice e b s).freeCount = s.freeCount := by
  unfold blindNotice; split <;> simp

@[simp] theorem closeHeld_kept (e : PeriodEntry) (s : State) :
    (closeHeld e s).time = s.time ∧ (closeHeld e s).drumCar = s.drumCar ∧ (closeHeld e s).pumpCar = s.pumpCar ∧
    (closeHeld e s).setup = s.setup ∧ (closeHeld e s).drumGates = s.drumGates ∧
    (closeHeld e s).pumpGates = s.pumpGates ∧ (closeHeld e s).input = s.input ∧ (closeHeld e s).planner = s.planner ∧
    (closeHeld e s).sched = s.sched ∧ (closeHeld e s).drum = s.drum ∧ (closeHeld e s).comm = s.comm ∧
    (closeHeld e s).pump = s.pump ∧ (closeHeld e s).pending = s.pending ∧
    (closeHeld e s).freeCount = s.freeCount := by
  simp [closeHeld]

@[simp] theorem closePeriod_kept (e : PeriodEntry) (s : State) :
    (closePeriod e s).time = s.time ∧ (closePeriod e s).drumCar = s.drumCar ∧ (closePeriod e s).pumpCar = s.pumpCar ∧
    (closePeriod e s).setup = s.setup ∧ (closePeriod e s).drumGates = s.drumGates ∧
    (closePeriod e s).pumpGates = s.pumpGates ∧ (closePeriod e s).input = s.input ∧
    (closePeriod e s).planner = s.planner ∧ (closePeriod e s).sched = s.sched ∧ (closePeriod e s).drum = s.drum ∧
    (closePeriod e s).comm = s.comm ∧ (closePeriod e s).pump = s.pump ∧ (closePeriod e s).pending = s.pending ∧
    (closePeriod e s).freeCount = s.freeCount := by
  unfold closePeriod; split <;> simp

@[simp] theorem closeHouse_kept (s : State) :
    (closeHouse s).time = s.time ∧ (closeHouse s).drumCar = s.drumCar ∧ (closeHouse s).pumpCar = s.pumpCar ∧
    (closeHouse s).setup = s.setup ∧ (closeHouse s).drumGates = s.drumGates ∧
    (closeHouse s).pumpGates = s.pumpGates ∧ (closeHouse s).input = s.input ∧ (closeHouse s).planner = s.planner ∧
    (closeHouse s).sched = s.sched ∧ (closeHouse s).drum = s.drum ∧ (closeHouse s).comm = s.comm ∧
    (closeHouse s).pump = s.pump ∧ (closeHouse s).pending = s.pending ∧ (closeHouse s).freeCount = s.freeCount := by
  unfold closeHouse; split <;> simp

@[simp] theorem openPeriodEntry_kept (p : Plan) (s : State) :
    (openPeriodEntry p s).time = s.time ∧ (openPeriodEntry p s).drumCar = s.drumCar ∧
    (openPeriodEntry p s).pumpCar = s.pumpCar ∧ (openPeriodEntry p s).setup = s.setup ∧
    (openPeriodEntry p s).drumGates = s.drumGates ∧ (openPeriodEntry p s).pumpGates = s.pumpGates ∧
    (openPeriodEntry p s).input = s.input ∧ (openPeriodEntry p s).planner = s.planner ∧
    (openPeriodEntry p s).sched = s.sched ∧ (openPeriodEntry p s).drum = s.drum ∧
    (openPeriodEntry p s).comm = s.comm ∧ (openPeriodEntry p s).pump = s.pump ∧ (openPeriodEntry p s).link = s.link ∧
    (openPeriodEntry p s).rq = s.rq ∧ (openPeriodEntry p s).pending = s.pending ∧
    (openPeriodEntry p s).freeCount = s.freeCount := by
  simp [openPeriodEntry]

@[simp] theorem openHouse_kept (s : State) :
    (openHouse s).time = s.time ∧ (openHouse s).drumCar = s.drumCar ∧ (openHouse s).pumpCar = s.pumpCar ∧
    (openHouse s).setup = s.setup ∧ (openHouse s).drumGates = s.drumGates ∧ (openHouse s).pumpGates = s.pumpGates ∧
    (openHouse s).input = s.input ∧ (openHouse s).planner = s.planner ∧ (openHouse s).sched = s.sched ∧
    (openHouse s).drum = s.drum ∧ (openHouse s).comm = s.comm ∧ (openHouse s).pump = s.pump ∧
    (openHouse s).link = s.link ∧ (openHouse s).rq = s.rq ∧ (openHouse s).pending = s.pending ∧
    (openHouse s).freeCount = s.freeCount := by
  unfold openHouse; split <;> simp

end Sys2Proof.Machine
end

