-- ==== Sys2Proof/Laws/Scheduler.lean ====
section
/-! SUPPORT. What the Converter Scheduler can change: for each operation the parts of State it leaves as they were (`_kept`), and its effect. -/

namespace Sys2Proof.Machine

@[simp] theorem countLost_kept (o : ConversionOutcome) (s : State) :
    (countLost o s).time = s.time ∧ (countLost o s).drumCar = s.drumCar ∧ (countLost o s).pumpCar = s.pumpCar ∧
    (countLost o s).setup = s.setup ∧ (countLost o s).drumGates = s.drumGates ∧
    (countLost o s).pumpGates = s.pumpGates ∧ (countLost o s).input = s.input ∧ (countLost o s).planner = s.planner ∧
    (countLost o s).recon = s.recon ∧ (countLost o s).drum = s.drum ∧ (countLost o s).comm = s.comm ∧
    (countLost o s).pump = s.pump ∧ (countLost o s).link = s.link ∧ (countLost o s).rq = s.rq ∧
    (countLost o s).pending = s.pending ∧ (countLost o s).freeCount = s.freeCount := by
  unfold countLost; split <;> simp

@[simp] theorem deliverDrum_kept (o : ConversionOutcome) (s : State) :
    (deliverDrum o s).time = s.time ∧ (deliverDrum o s).drumCar = s.drumCar ∧ (deliverDrum o s).pumpCar = s.pumpCar ∧
    (deliverDrum o s).setup = s.setup ∧ (deliverDrum o s).pumpGates = s.pumpGates ∧
    (deliverDrum o s).input = s.input ∧ (deliverDrum o s).comm = s.comm ∧ (deliverDrum o s).pump = s.pump ∧
    (deliverDrum o s).pending = s.pending ∧ (deliverDrum o s).freeCount = s.freeCount := by
  unfold deliverDrum; simp only; split <;> simp

@[simp] theorem deliverPump_kept (o : ConversionOutcome) (s : State) :
    (deliverPump o s).time = s.time ∧ (deliverPump o s).drumCar = s.drumCar ∧ (deliverPump o s).pumpCar = s.pumpCar ∧
    (deliverPump o s).setup = s.setup ∧ (deliverPump o s).drumGates = s.drumGates ∧
    (deliverPump o s).input = s.input ∧ (deliverPump o s).planner = s.planner ∧ (deliverPump o s).recon = s.recon ∧
    (deliverPump o s).drum = s.drum ∧ (deliverPump o s).pending = s.pending ∧
    (deliverPump o s).freeCount = s.freeCount := by
  unfold deliverPump; split <;> simp

@[simp] theorem deliverHouse_kept (m : Motor) (o : ConversionOutcome) (s : State) :
    (deliverHouse m o s).time = s.time ∧ (deliverHouse m o s).drumCar = s.drumCar ∧
    (deliverHouse m o s).pumpCar = s.pumpCar ∧ (deliverHouse m o s).setup = s.setup ∧
    (deliverHouse m o s).input = s.input ∧ (deliverHouse m o s).pending = s.pending ∧
    (deliverHouse m o s).freeCount = s.freeCount := by
  unfold deliverHouse; simp only; split <;> simp

@[simp] theorem deliver_kept (m : Motor) (o : ConversionOutcome) (s : State) :
    (deliver m o s).time = s.time ∧ (deliver m o s).drumCar = s.drumCar ∧ (deliver m o s).pumpCar = s.pumpCar ∧
    (deliver m o s).setup = s.setup ∧ (deliver m o s).input = s.input ∧ (deliver m o s).pending = s.pending ∧
    (deliver m o s).freeCount = s.freeCount := by
  unfold deliver; simp only; split <;> simp

/-- A LOST outcome reaches the lost-conversion counters, the open entries and the ZC run alone (R55, R59, R72, R115). -/
@[simp] theorem deliverLost_kept (r : Request) (reason : LostReason) (s : State) :
    (deliverLost r reason s).time = s.time ∧ (deliverLost r reason s).drumCar = s.drumCar ∧
    (deliverLost r reason s).pumpCar = s.pumpCar ∧ (deliverLost r reason s).setup = s.setup ∧
    (deliverLost r reason s).drumGates = s.drumGates ∧ (deliverLost r reason s).pumpGates = s.pumpGates ∧
    (deliverLost r reason s).input = s.input ∧ (deliverLost r reason s).planner = s.planner ∧
    (deliverLost r reason s).drum = s.drum ∧ (deliverLost r reason s).pump = s.pump ∧
    (deliverLost r reason s).link = s.link ∧ (deliverLost r reason s).rq = s.rq ∧
    (deliverLost r reason s).pending = s.pending ∧ (deliverLost r reason s).freeCount = s.freeCount := by
  unfold deliverLost deliver Request.lostOutcome; simp only
  split <;> simp only [deliverDrum, deliverPump, deliverHouse] <;> (repeat' split) <;> simp_all

@[simp] theorem State.withQueue_kept (s : State) (q : List Request) :
    (s.withQueue q).time = s.time ∧ (s.withQueue q).drumCar = s.drumCar ∧ (s.withQueue q).pumpCar = s.pumpCar ∧
    (s.withQueue q).setup = s.setup ∧ (s.withQueue q).drumGates = s.drumGates ∧
    (s.withQueue q).pumpGates = s.pumpGates ∧ (s.withQueue q).input = s.input ∧ (s.withQueue q).planner = s.planner ∧
    (s.withQueue q).recon = s.recon ∧ (s.withQueue q).drum = s.drum ∧ (s.withQueue q).comm = s.comm ∧
    (s.withQueue q).pump = s.pump ∧ (s.withQueue q).link = s.link ∧ (s.withQueue q).rq = s.rq ∧
    (s.withQueue q).pending = s.pending ∧ (s.withQueue q).freeCount = s.freeCount := by
  simp [State.withQueue]

@[simp] theorem joinRequest_kept (r : Request) (s : State) :
    (joinRequest r s).time = s.time ∧ (joinRequest r s).drumCar = s.drumCar ∧ (joinRequest r s).pumpCar = s.pumpCar ∧
    (joinRequest r s).setup = s.setup ∧ (joinRequest r s).drumGates = s.drumGates ∧
    (joinRequest r s).pumpGates = s.pumpGates ∧ (joinRequest r s).input = s.input ∧
    (joinRequest r s).planner = s.planner ∧ (joinRequest r s).drum = s.drum ∧ (joinRequest r s).pump = s.pump ∧
    (joinRequest r s).link = s.link ∧ (joinRequest r s).rq = s.rq ∧ (joinRequest r s).pending = s.pending ∧
    (joinRequest r s).freeCount = s.freeCount := by
  unfold joinRequest; simp only; (repeat' split) <;> simp

@[simp] theorem makeRequest_kept (r : Request) (s : State) :
    (makeRequest r s).time = s.time ∧ (makeRequest r s).drumCar = s.drumCar ∧ (makeRequest r s).pumpCar = s.pumpCar ∧
    (makeRequest r s).setup = s.setup ∧ (makeRequest r s).drumGates = s.drumGates ∧
    (makeRequest r s).pumpGates = s.pumpGates ∧ (makeRequest r s).input = s.input ∧
    (makeRequest r s).planner = s.planner ∧ (makeRequest r s).drum = s.drum ∧ (makeRequest r s).pump = s.pump ∧
    (makeRequest r s).link = s.link ∧ (makeRequest r s).rq = s.rq ∧ (makeRequest r s).pending = s.pending ∧
    (makeRequest r s).freeCount = s.freeCount := by
  unfold makeRequest; split <;> simp

@[simp] theorem startConversion_kept (r : Request) (s : State) :
    (startConversion r s).time = s.time ∧ (startConversion r s).drumCar = s.drumCar ∧
    (startConversion r s).pumpCar = s.pumpCar ∧ (startConversion r s).setup = s.setup ∧
    (startConversion r s).drumGates = s.drumGates ∧ (startConversion r s).pumpGates = s.pumpGates ∧
    (startConversion r s).input = s.input ∧ (startConversion r s).planner = s.planner ∧
    (startConversion r s).recon = s.recon ∧ (startConversion r s).drum = s.drum ∧
    (startConversion r s).comm = s.comm ∧ (startConversion r s).pump = s.pump ∧ (startConversion r s).link = s.link ∧
    (startConversion r s).rq = s.rq ∧ (startConversion r s).pending = s.pending ∧
    (startConversion r s).freeCount = s.freeCount := by
  simp [startConversion]

@[simp] theorem expire_kept (r : Request) (s : State) :
    (expire r s).time = s.time ∧ (expire r s).drumCar = s.drumCar ∧ (expire r s).pumpCar = s.pumpCar ∧
    (expire r s).setup = s.setup ∧ (expire r s).drumGates = s.drumGates ∧ (expire r s).pumpGates = s.pumpGates ∧
    (expire r s).input = s.input ∧ (expire r s).planner = s.planner ∧ (expire r s).drum = s.drum ∧
    (expire r s).pump = s.pump ∧ (expire r s).link = s.link ∧ (expire r s).rq = s.rq ∧
    (expire r s).pending = s.pending ∧ (expire r s).freeCount = s.freeCount := by
  simp [expire]

@[simp] theorem finishConversion_kept (c : Conversion) (raw : Code) (m : Motor) (s : State) :
    (finishConversion c raw m s).time = s.time ∧ (finishConversion c raw m s).drumCar = s.drumCar ∧
    (finishConversion c raw m s).pumpCar = s.pumpCar ∧ (finishConversion c raw m s).setup = s.setup ∧
    (finishConversion c raw m s).input = s.input ∧ (finishConversion c raw m s).pending = s.pending ∧
    (finishConversion c raw m s).freeCount = s.freeCount := by
  simp [finishConversion]

@[simp] theorem houseRequests_kept (s : State) :
    (houseRequests s).time = s.time ∧ (houseRequests s).drumCar = s.drumCar ∧ (houseRequests s).pumpCar = s.pumpCar ∧
    (houseRequests s).setup = s.setup ∧ (houseRequests s).drumGates = s.drumGates ∧
    (houseRequests s).pumpGates = s.pumpGates ∧ (houseRequests s).input = s.input ∧
    (houseRequests s).planner = s.planner ∧ (houseRequests s).drum = s.drum ∧ (houseRequests s).pump = s.pump ∧
    (houseRequests s).link = s.link ∧ (houseRequests s).rq = s.rq ∧ (houseRequests s).pending = s.pending ∧
    (houseRequests s).freeCount = s.freeCount := by
  unfold houseRequests; simp only; split <;> simp

@[simp] theorem planRequest_kept (w : Nat) (p : Option RequestSpan) (s : State) :
    (planRequest w p s).time = s.time ∧ (planRequest w p s).drumCar = s.drumCar ∧
    (planRequest w p s).pumpCar = s.pumpCar ∧ (planRequest w p s).setup = s.setup ∧
    (planRequest w p s).drumGates = s.drumGates ∧ (planRequest w p s).pumpGates = s.pumpGates ∧
    (planRequest w p s).input = s.input ∧ (planRequest w p s).planner = s.planner ∧
    (planRequest w p s).drum = s.drum ∧ (planRequest w p s).pump = s.pump ∧ (planRequest w p s).link = s.link ∧
    (planRequest w p s).rq = s.rq ∧ (planRequest w p s).pending = s.pending ∧
    (planRequest w p s).freeCount = s.freeCount := by
  unfold planRequest; split <;> simp

@[simp] theorem drumCalibrationRequest_kept (s : State) :
    (drumCalibrationRequest s).time = s.time ∧ (drumCalibrationRequest s).drumCar = s.drumCar ∧
    (drumCalibrationRequest s).pumpCar = s.pumpCar ∧ (drumCalibrationRequest s).setup = s.setup ∧
    (drumCalibrationRequest s).drumGates = s.drumGates ∧ (drumCalibrationRequest s).pumpGates = s.pumpGates ∧
    (drumCalibrationRequest s).input = s.input ∧ (drumCalibrationRequest s).planner = s.planner ∧
    (drumCalibrationRequest s).drum = s.drum ∧ (drumCalibrationRequest s).pump = s.pump ∧
    (drumCalibrationRequest s).link = s.link ∧ (drumCalibrationRequest s).rq = s.rq ∧
    (drumCalibrationRequest s).pending = s.pending ∧ (drumCalibrationRequest s).freeCount = s.freeCount := by
  simp [drumCalibrationRequest]

@[simp] theorem pumpCalibrationRequest_kept (s : State) :
    (pumpCalibrationRequest s).time = s.time ∧ (pumpCalibrationRequest s).drumCar = s.drumCar ∧
    (pumpCalibrationRequest s).pumpCar = s.pumpCar ∧ (pumpCalibrationRequest s).setup = s.setup ∧
    (pumpCalibrationRequest s).drumGates = s.drumGates ∧ (pumpCalibrationRequest s).pumpGates = s.pumpGates ∧
    (pumpCalibrationRequest s).input = s.input ∧ (pumpCalibrationRequest s).planner = s.planner ∧
    (pumpCalibrationRequest s).drum = s.drum ∧ (pumpCalibrationRequest s).pump = s.pump ∧
    (pumpCalibrationRequest s).link = s.link ∧ (pumpCalibrationRequest s).rq = s.rq ∧
    (pumpCalibrationRequest s).pending = s.pending ∧ (pumpCalibrationRequest s).freeCount = s.freeCount := by
  simp [pumpCalibrationRequest]

@[simp] theorem floatingRequest_kept (s : State) :
    (floatingRequest s).time = s.time ∧ (floatingRequest s).drumCar = s.drumCar ∧
    (floatingRequest s).pumpCar = s.pumpCar ∧ (floatingRequest s).setup = s.setup ∧
    (floatingRequest s).drumGates = s.drumGates ∧ (floatingRequest s).pumpGates = s.pumpGates ∧
    (floatingRequest s).input = s.input ∧ (floatingRequest s).planner = s.planner ∧
    (floatingRequest s).drum = s.drum ∧ (floatingRequest s).pump = s.pump ∧ (floatingRequest s).link = s.link ∧
    (floatingRequest s).rq = s.rq ∧ (floatingRequest s).pending = s.pending ∧
    (floatingRequest s).freeCount = s.freeCount := by
  simp [floatingRequest, pumpRequest]

@[simp] theorem pumpRequests_kept (s : State) :
    (pumpRequests s).time = s.time ∧ (pumpRequests s).drumCar = s.drumCar ∧ (pumpRequests s).pumpCar = s.pumpCar ∧
    (pumpRequests s).setup = s.setup ∧ (pumpRequests s).drumGates = s.drumGates ∧
    (pumpRequests s).pumpGates = s.pumpGates ∧ (pumpRequests s).input = s.input ∧
    (pumpRequests s).planner = s.planner ∧ (pumpRequests s).drum = s.drum ∧ (pumpRequests s).pump = s.pump ∧
    (pumpRequests s).link = s.link ∧ (pumpRequests s).rq = s.rq ∧ (pumpRequests s).pending = s.pending ∧
    (pumpRequests s).freeCount = s.freeCount := by
  unfold pumpRequests; simp only; (repeat' split) <;> simp [pumpRequest]

@[simp] theorem unassign_kept (m : Measurand) (s : State) :
    (unassign m s).time = s.time ∧ (unassign m s).drumCar = s.drumCar ∧ (unassign m s).pumpCar = s.pumpCar ∧
    (unassign m s).setup = s.setup ∧ (unassign m s).drumGates = s.drumGates ∧
    (unassign m s).pumpGates = s.pumpGates ∧ (unassign m s).input = s.input ∧ (unassign m s).planner = s.planner ∧
    (unassign m s).drum = s.drum ∧ (unassign m s).pump = s.pump ∧ (unassign m s).link = s.link ∧
    (unassign m s).rq = s.rq ∧ (unassign m s).pending = s.pending ∧ (unassign m s).freeCount = s.freeCount := by
  unfold unassign
  generalize s.sched.queue.filter (fun r => decide (r.measurand = m)) = l
  suffices h : ∀ (l : List Request) (t : State),
      (let u := l.foldl (fun t r => deliverLost r .unassigned t) t
       u.time = t.time ∧ u.drumCar = t.drumCar ∧ u.pumpCar = t.pumpCar ∧ u.setup = t.setup ∧
       u.drumGates = t.drumGates ∧ u.pumpGates = t.pumpGates ∧ u.input = t.input ∧ u.planner = t.planner ∧
       u.drum = t.drum ∧ u.pump = t.pump ∧ u.link = t.link ∧ u.rq = t.rq ∧ u.pending = t.pending ∧
       u.freeCount = t.freeCount) by
    simpa using h l (s.withQueue (s.sched.queue.filter fun r => decide (r.measurand ≠ m)))
  intro l
  induction l with
  | nil => simp
  | cons r l ih => intro t; simpa using ih (deliverLost r .unassigned t)

end Sys2Proof.Machine
end

