-- ==== Sys2Proof/Laws/Periods.lean ====
section
/-! SUPPORT. What the planner and the period starts can change: for each operation the parts of State it leaves as they were (`_kept`), and its effect. -/

namespace Sys2Proof.Machine

@[simp] theorem preparePlan_kept (d : PerPhase Word) (s : State) :
    (preparePlan d s).time = s.time ∧ (preparePlan d s).drumCar = s.drumCar ∧ (preparePlan d s).pumpCar = s.pumpCar ∧
    (preparePlan d s).setup = s.setup ∧ (preparePlan d s).drumGates = s.drumGates ∧
    (preparePlan d s).pumpGates = s.pumpGates ∧ (preparePlan d s).input = s.input ∧
    (preparePlan d s).sched = s.sched ∧ (preparePlan d s).recon = s.recon ∧ (preparePlan d s).drum = s.drum ∧
    (preparePlan d s).comm = s.comm ∧ (preparePlan d s).pump = s.pump ∧ (preparePlan d s).link = s.link ∧
    (preparePlan d s).rq = s.rq ∧ (preparePlan d s).pending = s.pending ∧
    (preparePlan d s).freeCount = s.freeCount := by
  simp [preparePlan]

@[simp] theorem takeEntry_kept (d : PerPhase Word) (s : State) :
    (takeEntry d s).time = s.time ∧ (takeEntry d s).drumCar = s.drumCar ∧ (takeEntry d s).pumpCar = s.pumpCar ∧
    (takeEntry d s).setup = s.setup ∧ (takeEntry d s).drumGates = s.drumGates ∧
    (takeEntry d s).pumpGates = s.pumpGates ∧ (takeEntry d s).input = s.input ∧ (takeEntry d s).sched = s.sched ∧
    (takeEntry d s).recon = s.recon ∧ (takeEntry d s).drum = s.drum ∧ (takeEntry d s).comm = s.comm ∧
    (takeEntry d s).pump = s.pump ∧ (takeEntry d s).link = s.link ∧ (takeEntry d s).rq = s.rq ∧
    (takeEntry d s).pending = s.pending ∧ (takeEntry d s).freeCount = s.freeCount := by
  simp [takeEntry]

@[simp] theorem permitChanged_kept (b : State) (m : Motor) (s : State) :
    (permitChanged b m s).time = s.time ∧ (permitChanged b m s).drumCar = s.drumCar ∧
    (permitChanged b m s).pumpCar = s.pumpCar ∧ (permitChanged b m s).setup = s.setup ∧
    (permitChanged b m s).input = s.input ∧ (permitChanged b m s).sched = s.sched ∧
    (permitChanged b m s).pending = s.pending ∧ (permitChanged b m s).freeCount = s.freeCount := by
  unfold permitChanged; simp only; split <;> (try cases m) <;> simp [bothMotors]

@[simp] theorem takePermit_kept (p : Bool) (m : Motor) (s : State) :
    (takePermit p m s).time = s.time ∧ (takePermit p m s).drumCar = s.drumCar ∧
    (takePermit p m s).pumpCar = s.pumpCar ∧ (takePermit p m s).setup = s.setup ∧
    (takePermit p m s).sched = s.sched ∧ (takePermit p m s).pending = s.pending ∧
    (takePermit p m s).freeCount = s.freeCount := by
  unfold takePermit; simp only; split <;> simp

@[simp] theorem beginDrumPeriod_kept (s : State) :
    (beginDrumPeriod s).time = s.time ∧ (beginDrumPeriod s).pumpCar = s.pumpCar ∧
    (beginDrumPeriod s).setup = s.setup ∧ (beginDrumPeriod s).drumGates = s.drumGates ∧
    (beginDrumPeriod s).pumpGates = s.pumpGates ∧ (beginDrumPeriod s).input = s.input ∧
    (beginDrumPeriod s).planner = s.planner ∧ (beginDrumPeriod s).sched = s.sched ∧
    (beginDrumPeriod s).drum = s.drum ∧ (beginDrumPeriod s).comm = s.comm ∧ (beginDrumPeriod s).pump = s.pump ∧
    (beginDrumPeriod s).link = s.link ∧ (beginDrumPeriod s).rq = s.rq ∧ (beginDrumPeriod s).pending = s.pending ∧
    (beginDrumPeriod s).freeCount = s.freeCount := by
  simp [beginDrumPeriod]

@[simp] theorem takeStop_kept (s : State) :
    (takeStop s).time = s.time ∧ (takeStop s).drumCar = s.drumCar ∧ (takeStop s).pumpCar = s.pumpCar ∧
    (takeStop s).setup = s.setup ∧ (takeStop s).pumpGates = s.pumpGates ∧ (takeStop s).input = s.input ∧
    (takeStop s).sched = s.sched ∧ (takeStop s).recon = s.recon ∧ (takeStop s).comm = s.comm ∧
    (takeStop s).pump = s.pump ∧ (takeStop s).pending = s.pending ∧ (takeStop s).freeCount = s.freeCount := by
  unfold takeStop; split <;> simp

@[simp] theorem enterRun_kept (s : State) :
    (enterRun s).time = s.time ∧ (enterRun s).drumCar = s.drumCar ∧ (enterRun s).pumpCar = s.pumpCar ∧
    (enterRun s).setup = s.setup ∧ (enterRun s).pumpGates = s.pumpGates ∧ (enterRun s).input = s.input ∧
    (enterRun s).sched = s.sched ∧ (enterRun s).comm = s.comm ∧ (enterRun s).pump = s.pump ∧
    (enterRun s).pending = s.pending ∧ (enterRun s).freeCount = s.freeCount := by
  unfold enterRun; simp only; (repeat' split) <;> simp

@[simp] theorem commandPlan_kept (p : Plan) (n : Nat) (s : State) :
    (commandPlan p n s).time = s.time ∧ (commandPlan p n s).drumCar = s.drumCar ∧
    (commandPlan p n s).pumpCar = s.pumpCar ∧ (commandPlan p n s).setup = s.setup ∧
    (commandPlan p n s).pumpGates = s.pumpGates ∧ (commandPlan p n s).input = s.input ∧
    (commandPlan p n s).planner = s.planner ∧ (commandPlan p n s).sched = s.sched ∧
    (commandPlan p n s).recon = s.recon ∧ (commandPlan p n s).drum = s.drum ∧ (commandPlan p n s).comm = s.comm ∧
    (commandPlan p n s).pump = s.pump ∧ (commandPlan p n s).link = s.link ∧ (commandPlan p n s).rq = s.rq ∧
    (commandPlan p n s).pending = s.pending ∧ (commandPlan p n s).freeCount = s.freeCount := by
  simp [commandPlan]

@[simp] theorem applyPlan_kept (s : State) :
    (applyPlan s).time = s.time ∧ (applyPlan s).drumCar = s.drumCar ∧ (applyPlan s).pumpCar = s.pumpCar ∧
    (applyPlan s).setup = s.setup ∧ (applyPlan s).pumpGates = s.pumpGates ∧ (applyPlan s).input = s.input ∧
    (applyPlan s).drum = s.drum ∧ (applyPlan s).pump = s.pump ∧ (applyPlan s).link = s.link ∧
    (applyPlan s).rq = s.rq ∧ (applyPlan s).pending = s.pending ∧ (applyPlan s).freeCount = s.freeCount := by
  unfold applyPlan; simp only; (repeat' split) <;> simp

@[simp] theorem calibrateDrum_kept (s : State) :
    (calibrateDrum s).time = s.time ∧ (calibrateDrum s).drumCar = s.drumCar ∧ (calibrateDrum s).pumpCar = s.pumpCar ∧
    (calibrateDrum s).setup = s.setup ∧ (calibrateDrum s).pumpGates = s.pumpGates ∧
    (calibrateDrum s).input = s.input ∧ (calibrateDrum s).pump = s.pump ∧ (calibrateDrum s).pending = s.pending ∧
    (calibrateDrum s).freeCount = s.freeCount := by
  unfold calibrateDrum; (repeat' split) <;> simp

@[simp] theorem closeEnding_kept (e : Option PeriodEntry) (s : State) :
    (closeEnding e s).time = s.time ∧ (closeEnding e s).drumCar = s.drumCar ∧ (closeEnding e s).pumpCar = s.pumpCar ∧
    (closeEnding e s).setup = s.setup ∧ (closeEnding e s).drumGates = s.drumGates ∧
    (closeEnding e s).pumpGates = s.pumpGates ∧ (closeEnding e s).input = s.input ∧
    (closeEnding e s).planner = s.planner ∧ (closeEnding e s).sched = s.sched ∧ (closeEnding e s).drum = s.drum ∧
    (closeEnding e s).comm = s.comm ∧ (closeEnding e s).pump = s.pump ∧ (closeEnding e s).pending = s.pending ∧
    (closeEnding e s).freeCount = s.freeCount := by
  unfold closeEnding; split <;> simp

/-- Each part of State after an effect that is taken or not. -/
@[simp] theorem takeIf_parts (b : Bool) (f : State → State) (s : State) :
    (takeIf b f s).time = (if b then (f s).time else s.time) ∧
    (takeIf b f s).drumCar = (if b then (f s).drumCar else s.drumCar) ∧
    (takeIf b f s).pumpCar = (if b then (f s).pumpCar else s.pumpCar) ∧
    (takeIf b f s).setup = (if b then (f s).setup else s.setup) ∧
    (takeIf b f s).drumGates = (if b then (f s).drumGates else s.drumGates) ∧
    (takeIf b f s).pumpGates = (if b then (f s).pumpGates else s.pumpGates) ∧
    (takeIf b f s).input = (if b then (f s).input else s.input) ∧
    (takeIf b f s).planner = (if b then (f s).planner else s.planner) ∧
    (takeIf b f s).sched = (if b then (f s).sched else s.sched) ∧
    (takeIf b f s).recon = (if b then (f s).recon else s.recon) ∧
    (takeIf b f s).drum = (if b then (f s).drum else s.drum) ∧
    (takeIf b f s).comm = (if b then (f s).comm else s.comm) ∧
    (takeIf b f s).pump = (if b then (f s).pump else s.pump) ∧
    (takeIf b f s).link = (if b then (f s).link else s.link) ∧
    (takeIf b f s).rq = (if b then (f s).rq else s.rq) ∧
    (takeIf b f s).pending = (if b then (f s).pending else s.pending) ∧
    (takeIf b f s).freeCount = (if b then (f s).freeCount else s.freeCount) := by
  cases b <;> simp [takeIf]

@[simp] theorem drumPeriodStart_kept (p : Bool) (o : PeriodOrder) (s : State) :
    (drumPeriodStart p o s).time = s.time ∧ (drumPeriodStart p o s).pumpCar = s.pumpCar ∧
    (drumPeriodStart p o s).setup = s.setup ∧ (drumPeriodStart p o s).pending = s.pending ∧
    (drumPeriodStart p o s).freeCount = s.freeCount := by
  simp [drumPeriodStart]

@[simp] theorem beginPumpPeriod_kept (s : State) :
    (beginPumpPeriod s).time = s.time ∧ (beginPumpPeriod s).drumCar = s.drumCar ∧
    (beginPumpPeriod s).setup = s.setup ∧ (beginPumpPeriod s).drumGates = s.drumGates ∧
    (beginPumpPeriod s).pumpGates = s.pumpGates ∧ (beginPumpPeriod s).input = s.input ∧
    (beginPumpPeriod s).planner = s.planner ∧ (beginPumpPeriod s).sched = s.sched ∧
    (beginPumpPeriod s).recon = s.recon ∧ (beginPumpPeriod s).drum = s.drum ∧ (beginPumpPeriod s).comm = s.comm ∧
    (beginPumpPeriod s).pump = s.pump ∧ (beginPumpPeriod s).link = s.link ∧ (beginPumpPeriod s).rq = s.rq ∧
    (beginPumpPeriod s).pending = s.pending ∧ (beginPumpPeriod s).freeCount = s.freeCount := by
  simp [beginPumpPeriod]

@[simp] theorem applyPendingDuty_kept (s : State) :
    (applyPendingDuty s).time = s.time ∧ (applyPendingDuty s).drumCar = s.drumCar ∧
    (applyPendingDuty s).pumpCar = s.pumpCar ∧ (applyPendingDuty s).setup = s.setup ∧
    (applyPendingDuty s).drumGates = s.drumGates ∧ (applyPendingDuty s).pumpGates = s.pumpGates ∧
    (applyPendingDuty s).input = s.input ∧ (applyPendingDuty s).planner = s.planner ∧
    (applyPendingDuty s).sched = s.sched ∧ (applyPendingDuty s).recon = s.recon ∧
    (applyPendingDuty s).drum = s.drum ∧ (applyPendingDuty s).comm = s.comm ∧ (applyPendingDuty s).link = s.link ∧
    (applyPendingDuty s).rq = s.rq ∧ (applyPendingDuty s).pending = s.pending ∧
    (applyPendingDuty s).freeCount = s.freeCount := by
  unfold applyPendingDuty; (repeat' split) <;> simp

@[simp] theorem countAlign_kept (s : State) :
    (countAlign s).time = s.time ∧ (countAlign s).drumCar = s.drumCar ∧ (countAlign s).pumpCar = s.pumpCar ∧
    (countAlign s).setup = s.setup ∧ (countAlign s).drumGates = s.drumGates ∧
    (countAlign s).pumpGates = s.pumpGates ∧ (countAlign s).input = s.input ∧ (countAlign s).planner = s.planner ∧
    (countAlign s).sched = s.sched ∧ (countAlign s).recon = s.recon ∧ (countAlign s).drum = s.drum ∧
    (countAlign s).comm = s.comm ∧ (countAlign s).link = s.link ∧ (countAlign s).rq = s.rq ∧
    (countAlign s).pending = s.pending ∧ (countAlign s).freeCount = s.freeCount := by
  simp [countAlign]

@[simp] theorem fixOnTime_kept (s : State) :
    (fixOnTime s).time = s.time ∧ (fixOnTime s).drumCar = s.drumCar ∧ (fixOnTime s).pumpCar = s.pumpCar ∧
    (fixOnTime s).setup = s.setup ∧ (fixOnTime s).drumGates = s.drumGates ∧ (fixOnTime s).pumpGates = s.pumpGates ∧
    (fixOnTime s).input = s.input ∧ (fixOnTime s).planner = s.planner ∧ (fixOnTime s).sched = s.sched ∧
    (fixOnTime s).recon = s.recon ∧ (fixOnTime s).drum = s.drum ∧ (fixOnTime s).pump = s.pump ∧
    (fixOnTime s).link = s.link ∧ (fixOnTime s).rq = s.rq ∧ (fixOnTime s).pending = s.pending ∧
    (fixOnTime s).freeCount = s.freeCount := by
  simp [fixOnTime]

@[simp] theorem markPeriod_kept (s : State) :
    (markPeriod s).time = s.time ∧ (markPeriod s).drumCar = s.drumCar ∧ (markPeriod s).pumpCar = s.pumpCar ∧
    (markPeriod s).setup = s.setup ∧ (markPeriod s).drumGates = s.drumGates ∧
    (markPeriod s).pumpGates = s.pumpGates ∧ (markPeriod s).input = s.input ∧ (markPeriod s).planner = s.planner ∧
    (markPeriod s).sched = s.sched ∧ (markPeriod s).recon = s.recon ∧ (markPeriod s).drum = s.drum ∧
    (markPeriod s).pump = s.pump ∧ (markPeriod s).link = s.link ∧ (markPeriod s).rq = s.rq ∧
    (markPeriod s).pending = s.pending ∧ (markPeriod s).freeCount = s.freeCount := by
  unfold markPeriod; simp only; (repeat' split) <;> simp

@[simp] theorem calibratePump_kept (b : Bool) (s : State) :
    (calibratePump b s).time = s.time ∧ (calibratePump b s).drumCar = s.drumCar ∧
    (calibratePump b s).pumpCar = s.pumpCar ∧ (calibratePump b s).setup = s.setup ∧
    (calibratePump b s).drumGates = s.drumGates ∧ (calibratePump b s).input = s.input ∧
    (calibratePump b s).planner = s.planner ∧ (calibratePump b s).drum = s.drum ∧
    (calibratePump b s).pending = s.pending ∧ (calibratePump b s).freeCount = s.freeCount := by
  unfold calibratePump takeIf; (repeat' split) <;> simp

@[simp] theorem openPumpPeriod_kept (b : Bool) (s : State) :
    (openPumpPeriod b s).time = s.time ∧ (openPumpPeriod b s).drumCar = s.drumCar ∧
    (openPumpPeriod b s).pumpCar = s.pumpCar ∧ (openPumpPeriod b s).setup = s.setup ∧
    (openPumpPeriod b s).drumGates = s.drumGates ∧ (openPumpPeriod b s).input = s.input ∧
    (openPumpPeriod b s).planner = s.planner ∧ (openPumpPeriod b s).drum = s.drum ∧
    (openPumpPeriod b s).pending = s.pending ∧ (openPumpPeriod b s).freeCount = s.freeCount := by
  unfold openPumpPeriod; simp only; (repeat' split) <;> simp

end Sys2Proof.Machine
end

