-- ==== Sys2Proof/Laws/Queue.lean ====
section
/-! SUPPORT. What a LOST outcome and a joining request do, and the order of the request queue. -/

namespace Sys2Proof.Machine

/-! ### LOST outcomes -/

/-- A window slot is filled by a LOST outcome when it awaited it (R72). -/
theorem fillWindow_lost (reason : LostReason) (w : WindowSlot) :
    fillWindow (.lost reason) w = if w = .awaited then .lost reason else w := rfl

/-- A house or bus slot is filled by a LOST outcome when it awaited it (R72). -/
theorem fillHouse_lost (reason : LostReason) (w : HouseSlot) :
    fillHouse (.lost reason) w = if w = .awaited then .lost reason else w := rfl

/-- The examined outcomes, as R114 says them. -/
theorem examines_iff (period : Word) (s : State) :
    examines period s = true ↔
      (s.pump.state = .ramp ∨ s.pump.state = .closed) ∧ s.comm.stepZc = none ∧
        (⟨period, true⟩ : DetectionMark) ∈ s.comm.marks := by
  have hm : markedExamined period s = true ↔ (⟨period, true⟩ : DetectionMark) ∈ s.comm.marks := by
    simp only [markedExamined, List.any_eq_true, Bool.and_eq_true, decide_eq_true_eq]
    constructor
    · rintro ⟨⟨p, e⟩, hx, rfl, rfl⟩
      exact hx
    · exact fun hx => ⟨_, hx, rfl, rfl⟩
  have hd : s.pump.state.detecting = true ↔ s.pump.state = .ramp ∨ s.pump.state = .closed := by
    cases s.pump.state <;> simp [PumpState.detecting]
  simp [examines, hm, hd, and_assoc]

/-- A LOST outcome at the period entry, as R72 says it. -/
theorem periodEntry_file_lost (r : Request) (reason : LostReason) (e : PeriodEntry) :
    e.file (r.lostOutcome reason) =
      if reason ≠ .superseded ∧ r.period = e.period then
        { e with
          window1 := if r.owner = .drum ∧ r.window = 1 ∧ e.window1 = .awaited then .lost reason else e.window1
          window2 := if r.owner = .drum ∧ r.window = 2 ∧ e.window2 = .awaited then .lost reason else e.window2
          bus := if r.owner = .house ∧ r.window = 1 ∧ e.bus = .awaited then .lost reason else e.bus }
      else e := by
  rcases r with ⟨o, m, p, w, a, l⟩
  simp only [PeriodEntry.file, ConversionOutcome.fits, Request.lostOutcome]
  by_cases hp : p = e.period <;> by_cases hr : reason = .superseded <;> simp [hp, hr]
  have hw : w = 1 ∨ w = 2 ∨ (w ≠ 1 ∧ w ≠ 2) := by omega
  cases o <;> rcases hw with rfl | rfl | ⟨h1, h2⟩ <;> simp [fillWindow_lost, fillHouse_lost]
  all_goals (split <;> simp_all)

/-- A LOST outcome at the house entry, as R72 says it. -/
theorem houseEntry_file_lost (r : Request) (reason : LostReason) (e : HouseEntry) :
    e.file (r.lostOutcome reason) =
      if reason ≠ .superseded ∧ r.period = e.period then
        { e with
          bus := if r.owner = .house ∧ r.window = 1 ∧ e.bus = .awaited then .lost reason else e.bus
          temp := if r.owner = .house ∧ r.window = 2 ∧ e.temp = .awaited then .lost reason else e.temp
          aux := if r.owner = .house ∧ r.window = 3 ∧ e.aux = .awaited then .lost reason else e.aux }
      else e := by
  rcases r with ⟨o, m, p, w, a, l⟩
  simp only [HouseEntry.file, ConversionOutcome.fits, Request.lostOutcome]
  by_cases hp : p = e.period <;> by_cases hr : reason = .superseded <;> simp [hp, hr]
  have hw : w = 1 ∨ w = 2 ∨ w = 3 ∨ (w ≠ 1 ∧ w ≠ 2 ∧ w ≠ 3) := by omega
  cases o <;> rcases hw with rfl | rfl | rfl | ⟨h1, h2, h3⟩ <;> simp [fillHouse_lost]
  all_goals (split <;> simp_all)

/-- What the LOST outcome of a request does (R57, R59, R72, R115). -/
theorem deliverLost_eq (r : Request) (reason : LostReason) (s : State) :
    deliverLost r reason s = afterLost reason r s := by
  have hp : ∀ e : PeriodEntry, e.file (r.lostOutcome reason) = _ := periodEntry_file_lost r reason
  have hh : ∀ e : HouseEntry, e.file (r.lostOutcome reason) = _ := houseEntry_file_lost r reason
  have hf : ∀ t : State, fileOutcome (r.lostOutcome reason) t = t.withRecon (afterLost reason r t).recon := by
    intro t
    simp only [fileOutcome, afterLost, funext hp, funext hh]
  rcases r with ⟨o, m, p, w, a, l⟩
  cases o
  · have hd : ∀ t : State, deliverDrum (Request.lostOutcome ⟨.drum, m, p, w, a, l⟩ reason) t =
        fileOutcome (Request.lostOutcome ⟨.drum, m, p, w, a, l⟩ reason) t := fun t => rfl
    simp only [deliverLost, deliver, Request.lostOutcome] at hd hf ⊢
    rw [hd, hf]
    simp [countLost, countUp, Config.counterMax, afterLost, State.withSched, State.withRecon]
  · have hx : ∀ t : State, t.pump = s.pump → t.comm = s.comm → examines p t = examines p s := by
      intro t h1 h2
      simp [examines, markedExamined, h1, h2]
    have he := examines_iff p s
    simp only [deliverLost, deliver, Request.lostOutcome, countLost]
    by_cases hw : w = 2
    · subst hw
      have h1 := hx (s.withSched { s.sched with lostPump := countUp s.sched.lostPump }) rfl rfl
      show floatingLost p reason (s.withSched { s.sched with lostPump := countUp s.sched.lostPump }) = _
      simp only [floatingLost, h1]
      by_cases hr : reason = .superseded <;> by_cases hq : examines p s = true
      all_goals
        have hq' := hq
        rw [he] at hq'
        simp [afterLost, hr, hq, hq', breakRun, countUp, Config.counterMax, State.withSched,
          State.withComm]
    · have hd : ∀ t : State, deliverPump ⟨.pump, m, p, w, .lost reason⟩ t = t := by
        intro t
        unfold deliverPump
        split <;> simp_all
      simp [hd, hw, afterLost, countUp, Config.counterMax, State.withSched]
  · have hd : ∀ t : State, deliverHouse .drum (Request.lostOutcome ⟨.house, m, p, w, a, l⟩ reason) t =
        fileOutcome (Request.lostOutcome ⟨.house, m, p, w, a, l⟩ reason) t := fun t => rfl
    simp only [deliverLost, deliver, Request.lostOutcome] at hd hf ⊢
    rw [hd, hf]
    simp [countLost, afterLost, State.withRecon]

/-! ### The request queue -/

/-- `ahead` is the order of R49. -/
theorem ahead_iff_before (a b : Request) : a.ahead b = true ↔ a.Before b := by
  have hp : ∀ x : Tick, passed x x = false := by intro x; simp [passed]
  rcases a with ⟨ao, am, ap, aw, ae, al⟩
  rcases b with ⟨bo, bm, bp, bw, be, bl⟩
  simp only [Request.ahead, Request.Before]
  by_cases h : al = bl
  · subst h
    cases ao <;> cases bo <;> simp [hp, Owner.rank]
  · simp [h]

theorem mem_insertRequest (r q : Request) (l : List Request) : q ∈ insertRequest r l ↔ q = r ∨ q ∈ l := by
  induction l with
  | nil => simp [insertRequest]
  | cons x l ih =>
    simp only [insertRequest]
    split
    · simp
    · simp only [List.mem_cons, ih]
      tauto

theorem length_insertRequest (r : Request) (l : List Request) : (insertRequest r l).length = l.length + 1 := by
  induction l with
  | nil => simp [insertRequest]
  | cons x l ih => simp only [insertRequest]; split <;> simp [ih]

/-- A joining request stands behind those it does not stand before (R49). -/
theorem insertRequest_append (r : Request) (ahead behind : List Request) (ha : ∀ q ∈ ahead, ¬r.Before q)
    (hb : ∀ q, behind.head? = some q → r.Before q) : insertRequest r (ahead ++ behind) = ahead ++ r :: behind := by
  induction ahead with
  | nil =>
    cases behind with
    | nil => rfl
    | cons q l => simp [insertRequest, (ahead_iff_before r q).2 (hb q rfl)]
  | cons x l ih =>
    have hx : r.ahead x = false := by
      have := ha x (by simp)
      simpa [← ahead_iff_before] using this
    simp [insertRequest, hx, ih fun q hq => ha q (by simp [hq])]

/-- Of two times that lie at most one tick back and at most 16000 ticks ahead, the one with the shorter way to go comes
first (R2). -/
theorem passed_iff_of_near (now a b : Tick) (ha : (a + 1 - now).toNat ≤ 16001) (hb : (b + 1 - now).toNat ≤ 16001) :
    passed a b = true ↔ (a + 1 - now).toNat < (b + 1 - now).toNat := by
  have hd : b - a = (b + 1 - now) - (a + 1 - now) := by ring
  have he : a = b ↔ a + 1 - now = b + 1 - now := by
    constructor
    · rintro rfl; rfl
    · intro h; simpa using h
  simp only [passed, reached, distance, hd, Bool.and_eq_true, bne_iff_ne, ne_eq, he]
  generalize a + 1 - now = x at *
  generalize b + 1 - now = y at *
  rw [decide_eq_true_iff]
  constructor
  · rintro ⟨h, hne⟩
    have : x.toNat ≠ y.toNat := fun h => hne (BitVec.eq_of_toNat_eq h)
    bv_omega
  · intro h
    exact ⟨by bv_omega, fun he => by subst he; omega⟩

/-- Among requests whose L lie near, what does not stand before one that does not stand before a third does not stand
before the third (R49). -/
theorem not_before_trans (now : Tick) (a b c : Request) (ha : (a.latest + 1 - now).toNat ≤ 16001)
    (hb : (b.latest + 1 - now).toNat ≤ 16001) (hc : (c.latest + 1 - now).toNat ≤ 16001) (h1 : ¬b.Before a)
    (h2 : ¬c.Before b) : ¬c.Before a := by
  have e : ∀ x y : Tick, x = y ↔ (x + 1 - now).toNat = (y + 1 - now).toNat := by
    intro x y
    rw [← BitVec.toNat_eq]
    simp
  rcases a with ⟨ao, am, ap, aw, ae, al⟩
  rcases b with ⟨bo, bm, bp, bw, be, bl⟩
  rcases c with ⟨co, cm, cp, cw, ce, cl⟩
  simp only [Request.Before] at ha hb hc h1 h2 ⊢
  rw [passed_iff_of_near now _ _ hb ha, e bl al] at h1
  rw [passed_iff_of_near now _ _ hc hb, e cl bl] at h2
  rw [passed_iff_of_near now _ _ hc ha, e cl al]
  clear e
  generalize (al + 1 - now).toNat = x at *
  generalize (bl + 1 - now).toNat = y at *
  generalize (cl + 1 - now).toNat = z at *
  cases ao <;> cases bo <;> cases co <;> simp at h1 h2 ⊢ <;> omega

end Sys2Proof.Machine
end

