-- ==== Sys2Proof/Tests/Slice0.lean ====
section
/-! SUPPORT. Tests: well-formedness, frames written out from chapter 10, one step of each kind of command against the
numbers of the chapters, and for each statement a state and operands that meet its hypotheses. -/

namespace Sys2Proof.Tests

set_option Elab.async false

open Sys2Proof Sys2Proof.Machine

/-! ### Well-formedness: one ill-formed term for each check -/

theorem test_wf_short_frame : (Instr.shortFrame 127).wellFormed = true ∧ (Instr.shortFrame 128).wellFormed = false := by
  decide +kernel
theorem test_wf_unknown_kind : (Instr.unknownKind 8).wellFormed = true ∧ (Instr.unknownKind 7).wellFormed = false := by
  decide +kernel
theorem test_wf_unknown_code :
    (Instr.controlUnknownCode 11).wellFormed = true ∧ (Instr.controlUnknownCode 10).wellFormed = false := by decide +kernel
theorem test_wf_unknown_id :
    (Instr.tableUnknownId 6).wellFormed = true ∧ (Instr.tableUnknownId 5).wellFormed = false := by decide +kernel
theorem test_wf_unknown_page :
    (Instr.queryUnknownPage 8).wellFormed = true ∧ (Instr.queryUnknownPage 7).wellFormed = false := by decide +kernel

/-! ### Frames written out from section 10.1; the check words were formed outside Lean, from R147 -/

theorem test_decode_fill :
    decodeFrame true .drum ⟨0x0800, 0x0001, 0x0002, 0x0003, 0x0004, 0x0005, 0x0006, 0x869D⟩ = .fill := by decide +kernel
theorem test_decode_setup :
    decodeFrame true .drum ⟨0x1000, 0x09C4, 0x07D0, 0x0078, 0x00C8, 0x5010, 0x3081, 0xD02A⟩ =
      .setup ⟨2500, 2000, 120, 200, 80, 16, 3, 1, true⟩ true := by decide +kernel
theorem test_decode_duty :
    decodeFrame true .drum ⟨0x2000, 0xCB20, 0x7530, 0x2EE0, 0x0000, 0x0000, 0x0000, 0xE360⟩ =
      .duty ⟨52000, 30000, 12000⟩ := by decide +kernel
theorem test_decode_pump :
    decodeFrame true .drum ⟨0x3001, 0x4E20, 0x0000, 0x0000, 0x0000, 0x0000, 0x0000, 0xD09D⟩ = .pump 1 20000 := by decide +kernel
theorem test_decode_start_pump :
    decodeFrame true .drum ⟨0x4801, 0x0000, 0x0000, 0x0000, 0x0000, 0x0000, 0x0000, 0x2CDD⟩ = .startPump := by decide +kernel
theorem test_decode_stop_brake_drum :
    decodeFrame true .drum ⟨0x4003, 0x0000, 0x0000, 0x0000, 0x0000, 0x0000, 0x0000, 0x4D70⟩ = .stopBrakeDrum := by decide +kernel
theorem test_decode_reset :
    decodeFrame true .drum ⟨0x480A, 0x0000, 0x0000, 0x0000, 0x0000, 0x0000, 0x0000, 0xE822⟩ = .reset := by decide +kernel
theorem test_decode_rate :
    decodeFrame true .drum ⟨0x5000, 0x0000, 0x05DC, 0x0000, 0x0000, 0x0000, 0x0000, 0x80D7⟩ = .rate 0 1500 := by decide +kernel
theorem test_decode_commutation :
    decodeFrame true .drum ⟨0x6015, 0x2101, 0x0000, 0x0000, 0x0000, 0x0000, 0x0000, 0xFCFC⟩ =
      .tableCommutation 5 2 1 0 1 := by decide +kernel
theorem test_decode_ramp :
    decodeFrame true .drum ⟨0x6023, 0x0001, 0x2345, 0x0018, 0x3E80, 0x0000, 0x0000, 0xAC60⟩ =
      .tableRamp 3 0x012345 24 16000 := by decide +kernel
theorem test_decode_profile :
    decodeFrame true .drum ⟨0x6030, 0x1770, 0x07D0, 0x0040, 0x2845, 0x0000, 0x0000, 0xD8B9⟩ =
      .tableProfile ⟨6000, 2000, 64, 2, 8, 4, 5⟩ := by decide +kernel
theorem test_decode_input :
    decodeFrame true .drum ⟨0x6040, 0x0100, 0x0802, 0x0BB8, 0x0000, 0x0000, 0x0000, 0x7DE5⟩ =
      .tableInput 0 1 0 2050 3000 := by decide +kernel
theorem test_decode_ramp_length :
    decodeFrame true .drum ⟨0x6050, 0x0004, 0x0000, 0x0000, 0x0000, 0x0000, 0x0000, 0x0239⟩ = .tableRampLength 4 := by
  decide +kernel
theorem test_decode_query_table :
    decodeFrame true .drum ⟨0x7017, 0x0042, 0x0000, 0x0000, 0x0000, 0x0000, 0x0000, 0xE137⟩ = .queryTable true 4 2 := by
  decide +kernel
theorem test_decode_ring_b :
    decodeFrame true .drum ⟨0x7005, 0x0000, 0x0000, 0x0000, 0x0000, 0x0000, 0x0000, 0x9923⟩ = .queryPumpRingB false := by
  decide +kernel
theorem test_decode_names_nothing :
    decodeFrame true .drum ⟨0x9000, 0x0000, 0x0000, 0x0000, 0x0000, 0x0000, 0x0000, 0x38E3⟩ = .unknownKind 9 ∧
    decodeFrame true .drum ⟨0x400B, 0x0000, 0x0000, 0x0000, 0x0000, 0x0000, 0x0000, 0x462A⟩ = .controlUnknownCode 11 ∧
    decodeFrame true .drum ⟨0x6060, 0x0000, 0x0000, 0x0000, 0x0000, 0x0000, 0x0000, 0x68A2⟩ = .tableUnknownId 6 ∧
    decodeFrame true .drum ⟨0x7008, 0x0000, 0x0000, 0x0000, 0x0000, 0x0000, 0x0000, 0xD2B7⟩ = .queryUnknownPage 8 := by
  decide +kernel
theorem test_decode_break : decodeFrame true .pump ⟨0, 0, 0, 0, 0, 0, 0, 0⟩ = .breakFrame .pump := by decide +kernel
theorem test_decode_damaged :
    decodeFrame true .drum ⟨0x2000, 0xCB20, 0x7530, 0x2EE1, 0x0000, 0x0000, 0x0000, 0xE360⟩ = .checkError := by decide +kernel
theorem test_decode_line : decodeLine true .drum (List.replicate 127 true) = .shortFrame 127 := by decide +kernel

/-! ### Helpers: small states -/

/-- A frame under way that shows a filler. -/
def fr : FrameInProgress := ⟨⟨0, 0, 0, 0, 0, 0, 0, 0⟩, false, false⟩

/-- A part in READY with its Timebase running, a valid permit and a frame under way. -/
def started : State :=
  { State.reset with
    time := ⟨true, 16, 1⟩
    input := ⟨false, false, [true, true, true], true⟩
    link := { State.reset.link with state := .ready, frame := some fr, selected := true } }

/-- The drum in a state, with a cause record in SAFE. -/
def drumIn (st : DrumState) : State :=
  started.withDrum
    { started.drum with
      state := st
      cause := if st = .safe then some ⟨.overcurrent, ⟨false, false, false⟩⟩ else none }

/-- The pump in a state, with a cause record in SAFE. -/
def pumpIn (st : PumpState) : State :=
  started.withPump
    { started.pump with
      state := st
      cause := if st = .safe then some ⟨.stall, ⟨false, false, false⟩⟩ else none }

/-- `s` in AWAIT_SETUP. -/
def awaiting (s : State) : State := s.withLink { s.link with state := .awaitSetup }

/-- Outside a frame. -/
def unselected (s : State) : State := s.withLink { s.link with frame := none, selected := false }

/-- The outcome's next state. -/
def next (o : Answer State) : State :=
  match o with
  | .next s => s
  | .fault _ => State.reset
  | .refused _ => State.reset

/-- The wide-window plan of chapter 2 (section 11.1), for period 3. -/
def plan : Plan := buildPlan 3 2500 80 120 ⟨52000, 30000, 12000⟩

/-- The drum in RUN at the end of period 3, with both codes of section 11.1; the pump in CLOSED at the end of a period. -/
def running : State :=
  { started with
    drumCar := ⟨5000, 2500, 2500, 2500, 3, true⟩
    pumpCar := ⟨4000, 2000, 2000, 7, true⟩
    drumGates := ⟨⟨.high, .at 10, false, false⟩, ⟨.low, .at 10, false, false⟩, ⟨.low, .reached, false, true⟩⟩
    pumpGates := ⟨⟨.high, .at 10, false, false⟩, ⟨.low, .reached, false, true⟩, ⟨.float, .absent, false, false⟩⟩
    planner := ⟨none, ⟨52000, 30000, 12000⟩, 2, some plan, some plan⟩
    recon :=
      { started.recon with
        periodEntry := some ⟨3, 0, plan, .code 2110 60, .code 1990 (-60), .value 3120⟩
        heldRun := 15 }
    drum := { started.drum with state := .run }
    comm := { started.comm with ring := [8990, 9020, 8970, 9010, 9000, 8980], lastZc := some 0, zcMisses := 3 }
    pump := { started.pump with state := .closed, dutyInForce := 20000, pendingDuty := some 4916 } }

/-- `s` with the converter at the end of a conversion. -/
def converting (r : Request) (s : State) : State := s.withSched { s.sched with converter := some ⟨r, some 0, s.time.tick - 64, 0⟩ }

/-- `s` with this request queue. -/
def waiting (q : List Request) (s : State) : State := s.withSched { s.sched with queue := q }

/-! ### One step against the numbers of the chapters -/

/-- Chapter 2's wide-window plan and section 11.1: on-times 1983, 1144, 457, windows at 717..1340 and 1556..2027. -/
theorem test_plan_wide :
    plan.onTime = ⟨1983, 1144, 457⟩ ∧ plan.request1 = some ⟨717, 1340⟩ ∧ plan.request2 = some ⟨1556, 2027⟩ := by
  decide +kernel
/-- Section 11.1: phase A is commanded HIGH at 517 ticks into the period and not before. -/
theorem test_plan_edge_of_a : planLevel plan .a 516 = .low ∧ planLevel plan .a 517 = .high := by decide +kernel
/-- Section 11.1: period 3 closes with 60, −120, 60, bus code 3120, FRESH. -/
theorem test_period_start_rebuilds :
    (next (exec (.drumPeriodStart true ⟨.afterPlan, false, false, false, .drum⟩) running)).recon.lastFresh =
      ⟨60, -120, 60⟩ := by decide +kernel
/-- Sections 10.2 and 11.1: the words of DRUM 3. -/
theorem test_drum_record_words :
    (Record.drum ⟨3, ⟨60, -120, 60⟩, some 3120, true, false, false, false, false, false, false, false, false, false⟩).words =
      ⟨3, 0x003C, 0xFF88, 0x003C, 3120, 0x0801⟩ := by decide +kernel
/-- Section 11.1: SETUP starts the Timebase and queues BUS, TEMP and AUX of period 0. -/
theorem test_setup_queues_house :
    (next (exec (.setup ⟨2500, 2000, 120, 200, 80, 16, 3, 1, false⟩ true) State.reset)).sched.queue.map
      (fun r => (r.measurand, r.latest)) = [(.bus, 1250), (.temp, 2500), (.aux, 2500)] := by decide +kernel
/-- R6, section 10.1: a DT of 0 becomes 16, and the result is OK_CLAMPED. -/
theorem test_setup_clamps :
    let t := next (exec (.setup ⟨2500, 2000, 120, 200, 0, 16, 3, 17, false⟩ true) State.reset)
    t.setup.dt = 16 ∧ t.setup.divider = 16 ∧ t.link.result = .okClamped := by decide +kernel
/-- Section 11.1: the first upstream frame shows RESET with result NONE and depth 0. -/
theorem test_frame_begin_shows_reset :
    ((next (exec .frameBegin State.reset)).link.frame.map fun f => (f.upstream.w0, f.upstream.w1, f.upstream.w4)) =
      some (0x4000, 0, 0) := by decide +kernel
/-- R7: 0 leaves a half-period, and 999 is clamped. -/
theorem test_rate_clamps :
    let t := next (exec (.rate 0 999) started)
    t.drumCar.pendingHalf = 2500 ∧ t.pumpCar.pendingHalf = 1000 ∧ t.link.result = .okClamped := by decide +kernel
/-- Section 11.2: the third miss takes the drum to SAFE with LATE_DUTY and miss counter 3. -/
theorem test_plan_point_third_miss :
    let t := next (exec .planPoint { running with drumCar := ⟨4800, 2500, 2500, 2500, 203, false⟩ })
    t.drum.state = .safe ∧ t.planner.misses = 3 ∧
      t.drum.snapshot = some ⟨203, ⟨.lateDuty, ⟨false, false, false⟩⟩, ⟨0, 0, 0⟩, 3, .run⟩ := by decide +kernel
/-- Section 11.1: the plan point at 14 800 prepares the plan of period 3. -/
theorem test_plan_point_takes_entry :
    let s := { drumIn .ready with
      drumCar := ⟨4800, 2500, 2500, 2500, 2, false⟩, planner := ⟨some ⟨52000, 30000, 12000⟩, ⟨0, 0, 0⟩, 0, none, none⟩ }
    (next (exec .planPoint s)).planner = ⟨none, ⟨52000, 30000, 12000⟩, 0, some plan, none⟩ := by decide +kernel
/-- Section 11.2: CLEAR empties the cause record. -/
theorem test_clear_drum : (next (exec .clearDrum (drumIn .safe))).drum.cause = none := by decide +kernel
/-- Section 11.2: a DUTY frame in SAFE is refused and sets REFUSED. -/
theorem test_duty_in_safe :
    let t := next (exec (.duty ⟨1, 2, 3⟩) (drumIn .safe))
    t.link.result = .badState ∧ t.link.flags.refused = true ∧ t.planner.slot = none := by decide +kernel
/-- Section 11.3: a sum of 131 264 gives the offset 2051, and a sum of 1848 × 64 − 33 one that is out of range. -/
theorem test_calibrated_offset :
    calibratedOffset 131264 = 2051 ∧ offsetInRange (calibratedOffset (1848 * 64 - 33)) = false := by decide +kernel
/-- Section 11.3: the delay of 3298 step ticks and the timeout span of 17 990, from the six intervals of `running`. -/
theorem test_delay_and_timeout : commutationDelay running = 3298 ∧ timeoutSpan running = 17990 := by decide +kernel
/-- Section 11.3: in ALIGN the on-time of duty 6000 is 183. -/
theorem test_align_on_time :
    (next (exec (.pumpPeriodStart false) { pumpIn .align with pumpCar := ⟨4000, 2000, 2000, 0, true⟩ })).comm.onTime = 183 := by
  decide +kernel
/-- Section 11.4: duty 4916 gives an on-time of 150, and requests with E = P + 2050 and L = P + 2134. -/
theorem test_pump_requests :
    let t := next (exec (.pumpPeriodStart false) running)
    t.comm.onTime = 150 ∧ t.sched.queue.map (fun r => (r.window, (r.earliest - 16, r.latest - 16))) =
      [(1, (2050, 2134)), (2, (2050, 2134))] := by decide +kernel
/-- R109, R124: a commutation moves the step index by one row in the direction in force. -/
theorem test_due_commutation_steps :
    let s := { running with comm := { running.comm with due := some 0, stepZc := some 0, stepIndex := 5 } }
    (next (exec .dueCommutation s)).comm.stepIndex = 0 := by decide +kernel
/-- Section 11.4: the request whose L has been passed is lost, and counted for the pump. -/
theorem test_expiry_counts :
    let t := next (exec .requestExpiry (waiting [⟨.pump, .pumpVa, 7, 2, 0, 15⟩] running))
    t.sched.lostPump = 1 ∧ t.sched.lostDrum = 0 ∧ t.sched.queue = [] := by decide +kernel
/-- Section 11.4: at S + 717 the drum request starts, though two with an earlier L wait. -/
theorem test_start_skips_not_eligible :
    let s := waiting [⟨.pump, .pumpShunt, 7, 1, 17, 101⟩, ⟨.drum, .drumShunt, 3, 1, 16, 639⟩] started
    ((next (exec .conversionStart s)).sched.converter.map fun c => c.request.owner) = some .drum := by decide +kernel
/-- R56, R66: a BUS code becomes the latest bus reading. -/
theorem test_conversion_done_bus :
    (next (exec (.conversionDone 3120 .drum) (converting ⟨.house, .bus, 3, 1, 0, 0⟩ started))).sched.busReading = 3120 := by
  decide +kernel
/-- Section 11.5: a query of DRUM_SNAP empties the slot. -/
theorem test_query_drum_snap_empties :
    let s := started.withDrum { started.drum with snapshot := some ⟨9, ⟨.gateFault, ⟨false, false, false⟩⟩, ⟨1, 2, -3⟩, 0, .run⟩ }
    (next (exec (.queryDrumSnap false) s)).drum.snapshot = none := by decide +kernel
/-- Section 11.5: a LINK reply carries the lost-record count, and the clear flag then clears it. -/
theorem test_query_link_clears :
    let t := next (exec (.queryLink true) (started.withRq ⟨[], 7, false, false⟩))
    t.rq.lost = 0 ∧ t.rq.records =
      [.status (.link ⟨.ready, .power, 0, 0, 7, ⟨false, false, false, false, false, false, false, false⟩⟩)] := by
  decide +kernel
/-- R10: the high side turns on at its enable time; R11, R12: never both sides. -/
theorem test_enable_time_turns_on :
    let t := next (exec (.enableTimeReached .drum .a) running)
    (t.drumGates.get .a) = ⟨.high, .reached, true, false⟩ := by decide +kernel
/-- R13: a falling FAULT_P turns every pump output off. -/
theorem test_fault_line_fall :
    let t := next (exec (.faultLineFall .pump) running)
    (t.pumpGates.get .b).low = false ∧ t.pump.state = .safe := by decide +kernel
/-- R150: the second break frame in a row is a link break. -/
theorem test_second_break :
    let t := next (exec (.breakFrame .drum) (running.withLink { running.link with breakRun := 1 }))
    t.drum.state = .safe ∧ t.pump.state = .safe ∧ t.link.flags.broke = true := by decide +kernel
/-- Section 05, R97: a FAULT_D fall in the tick of a third over close leaves the ending period's entry to the period
start, which closes it: the overcurrent run stands at 3 in both orders. -/
theorem test_safe_entry_before_period_start :
    let s := running.withRecon
      { running.recon with periodEntry := some ⟨3, 0, plan, .code 2110 60, .code 4095 2045, .awaited⟩, overRun := 2 }
    let close := exec (.drumPeriodStart true ⟨.afterPlan, false, false, false, .drum⟩)
    let fall := exec (.faultLineFall .drum)
    let fault := next (close (next (fall s)))
    let trip := next (fall (next (close s)))
    fault.recon.overRun = 3 ∧ trip.recon.overRun = 3 ∧ fault.recon.periodEntry = none ∧
      fault.drum.cause = some ⟨.gateFault, ⟨false, false, false⟩⟩ ∧
      trip.drum.cause = some ⟨.overcurrent, ⟨false, true, false⟩⟩ := by decide +kernel
/-- R18, R40, R73, R77, R97: a permit lost at the period start that closes the third over period, taken between the entry
to RUN and the plan application, between that and the OVERCURRENT, and after both: the cause record, and how many
requests of the drum joined. -/
theorem test_permit_loss_orders :
    let s :=
      { running with
        input := ⟨false, false, [true, false, false], true⟩
        recon :=
          { running.recon with periodEntry := some ⟨3, 0, plan, .code 2110 60, .code 4095 2045, .awaited⟩, overRun := 2 } }
    let t := fun turn => next (exec (.drumPeriodStart false ⟨turn, false, false, false, .drum⟩) s)
    let shown := fun turn =>
      ((t turn).drum.cause, ((t turn).sched.queue.filter fun q => decide (q.owner = .drum)).length)
    shown .afterEntry = (some ⟨.permit, ⟨false, false, false⟩⟩, 0) ∧
      shown .afterPlan = (some ⟨.permit, ⟨false, false, false⟩⟩, 2) ∧
      shown .afterTrip = (some ⟨.overcurrent, ⟨true, false, false⟩⟩, 2) := by decide +kernel
/-- R145: the second upstream bit after one sample, LDO at 0 at the 128th sample, and nothing after it. -/
theorem test_link_edges :
    let f : FrameInProgress := ⟨⟨0x4000, 0, 0, 0, 0, 0, 0, 1⟩, false, false⟩
    let at_ := fun n => started.withLink { started.link with bitCount := n, shift := 5, ldo := true }
    let rise := takeLinkEdge (.rise true) f
    ((takeLinkEdge .fall f (rise (at_ 0))).link.bitCount = 1 ∧ (takeLinkEdge .fall f (rise (at_ 0))).link.ldo = true) ∧
    ((rise (at_ 127)).link.bitCount = 128 ∧ (rise (at_ 127)).link.shift = 11 ∧ (rise (at_ 127)).link.ldo = false) ∧
    rise (at_ 128) = at_ 128 := by decide +kernel
/-- R156: the result of the last frame is NONE after a COMMAND reset. -/
theorem test_reset_command :
    let t := next (exec .reset running)
    t.link.result = .none ∧ t.link.resetCause = .command ∧ t.time.running = false := by decide +kernel

/-! ### A state and operands that meet the hypotheses of each statement -/

theorem test_meets_StepRunsFrontCommand : (started.withPending [.fill, .planPoint]).pending = .fill :: [.planPoint] := rfl

/-- A due event; a Timebase that stands still; a running one with nothing due, outside a frame and in one; no bit, the
last bit and all bits sampled. -/
theorem test_meets_IdleStepTakesEventOrTick :
    (let s := { started with drumCar := { started.drumCar with pos := 4800 } }
     s.pending = [] ∧ dueEvent s = some .planPoint) ∧
    (State.reset.pending = [] ∧ dueEvent State.reset = none ∧ State.reset.time.running = false) ∧
    (State.reset.link.frame = none ∧
      let s := unselected { started with time := ⟨true, -1, -1⟩ }
      s.pending = [] ∧ dueEvent s = none ∧ s.link.frame = none ∧ s.time.running = true) ∧
    (let s := { started with time := ⟨true, -1, -1⟩ }
     s.pending = [] ∧ dueEvent s = none ∧ s.link.frame = some fr) ∧
    (let s := fun n => started.withLink { started.link with bitCount := n }
     (s 0).link.bitCount = 0 ∧ (s 127).link.bitCount < 128 ∧ 0 < (s 1).link.bitCount ∧ 128 ≤ (s 128).link.bitCount) := by
  decide +kernel

/-- The invariants hold of a part in use, and it steps. -/
theorem test_running_steps : ∃ t, step (running.withPending [.fill]) = .next t := ⟨_, rfl⟩
theorem test_running_clock : StepTickFollows running := by
  show _ % _ = _
  decide +kernel
theorem test_running_carriers : CarriersInRange running := by
  constructor <;> first | decide +kernel | (simp only [Within]; decide +kernel)
theorem test_running_stores : StoresInRange running := by
  refine ⟨?_, ?_, ?_, ?_, ?_⟩
  · constructor <;> first | decide +kernel | (simp only [Within]; decide +kernel)
  · constructor <;> first | decide +kernel | (simp only [Within]; decide +kernel)
  all_goals first | decide +kernel | (simp only [Within]; decide +kernel)
theorem test_running_gates : GatesFollow running := by
  intro m x
  cases m <;> cases x <;> constructor <;> decide +kernel
theorem test_running_high : HighCommandsDrive running := by
  constructor <;> (intro x; cases x <;> decide +kernel)
theorem test_running_queue : ConverterQueueKept (waiting [⟨.drum, .drumShunt, 3, 1, 16, 639⟩] running) := by
  constructor <;> decide +kernel
theorem test_running_records : RecordsKept running := by
  constructor <;> decide +kernel
theorem test_running_recon : ReconstructorInRange running := by
  constructor <;> first | decide +kernel | (simp only [CurrentInRange]; decide +kernel)
theorem test_running_drum : DrumKept running := by
  constructor <;> decide +kernel
theorem test_running_pump : PumpKept running := by
  constructor <;> decide +kernel
theorem test_running_misses : MissesKept running := by
  constructor <;> decide +kernel

/-! The whole premise of each statement about an invariant, at one state and its step. -/

/-- The part in use, with a filler frame's completion in front of its queue. -/
def stepping : State := running.withPending [.fill]

theorem test_meets_ClockAndStoresStayKept :
    ∃ t, step stepping = .next t ∧ StepTickFollows stepping ∧ CarriersInRange stepping ∧ StoresInRange stepping :=
  ⟨_, rfl, test_running_clock, ⟨test_running_carriers.1, test_running_carriers.2, test_running_carriers.3,
    test_running_carriers.4, test_running_carriers.5, test_running_carriers.6, test_running_carriers.7,
    test_running_carriers.8⟩, ⟨test_running_stores.1, test_running_stores.2, test_running_stores.3,
    test_running_stores.4, test_running_stores.5⟩⟩

theorem test_meets_GateOutputLaws :
    ∃ t, step stepping = .next t ∧ GatesFollow stepping ∧ HighCommandsDrive stepping :=
  ⟨_, rfl, test_running_gates, test_running_high⟩

theorem test_meets_MissCountersKeepLimits :
    ∃ t, step stepping = .next t ∧ StoresInRange stepping ∧ MissesKept stepping := by
  obtain ⟨a, b, c, d, e⟩ := test_running_stores
  obtain ⟨v, w, x, y, z⟩ := test_running_misses
  exact ⟨_, rfl, ⟨a, b, c, d, e⟩, ⟨v, w, x, y, z⟩⟩

/-- A running state with a queue in the order of R49: an earlier L first, then DRUM before PUMP. -/
def queued : State :=
  waiting [⟨.house, .bus, 4, 1, 16, 600⟩, ⟨.drum, .drumShunt, 3, 1, 16, 639⟩, ⟨.pump, .pumpShunt, 7, 1, 16, 639⟩] running

theorem test_queued_order : QueueOrdered queued := by
  have hp : queued.planner.prepared = some plan := rfl
  refine ⟨by simp only [Request.Before]; decide +kernel, by decide +kernel, fun p q h hq => ?_⟩
  obtain rfl : plan = p := Option.some.inj (hp.symm.trans h)
  have h1 : plan.request1 = some ⟨717, 1340⟩ := by decide +kernel
  have h2 : plan.request2 = some ⟨1556, 2027⟩ := by decide +kernel
  rw [h1, h2] at hq
  rcases hq with h | h <;> cases h <;> decide

theorem test_meets_ConverterQueueStaysKept :
    let s := (waiting [⟨.drum, .drumShunt, 3, 1, 16, 639⟩] running).withPending [.fill]
    (∃ t, step s = .next t ∧ ConverterQueueKept s) ∧
    ∃ t, step queued = .next t ∧ CarriersInRange queued ∧ QueueOrdered queued := by
  obtain ⟨a, b, c, d⟩ := test_running_queue
  obtain ⟨e, f, g, h, i, j, k, l⟩ := test_running_carriers
  exact ⟨⟨_, rfl, ⟨a, b, c, d⟩⟩, ⟨_, rfl, ⟨e, f, g, h, i, j, k, l⟩, test_queued_order⟩⟩

/-- What joins `queued`: between two owners of one L, in place of the bus request but behind the drum's, and into a
queue of eight. -/
theorem test_meets_ConverterQueueStaysKept_joining :
    let b : Request := ⟨.house, .bus, 4, 1, 16, 600⟩
    let d : Request := ⟨.drum, .drumShunt, 3, 1, 16, 639⟩
    let p : Request := ⟨.pump, .pumpShunt, 7, 1, 16, 639⟩
    let same := fun r q : Request => q.owner = r.owner ∧ q.period = r.period ∧ q.window = r.window
    let second : Request := ⟨.drum, .drumShunt, 3, 2, 16, 639⟩
    let later : Request := ⟨.house, .bus, 4, 1, 16, 639⟩
    ((∀ q ∈ queued.sched.queue, ¬same second q) ∧ queued.sched.queue = [b, d] ++ [p] ∧
      (∀ q ∈ [b, d], ¬second.Before q) ∧ second.Before p) ∧
    (queued.sched.queue = [] ++ b :: [d, p] ∧ same later b ∧ ([] : List Request) ++ [d, p] = [d, p] ++ [] ∧
      ∀ q ∈ [d, p], ¬later.Before q) ∧
    (let full := (List.range 8).map fun n => (⟨.pump, .pumpShunt, BitVec.ofNat 16 n, 1, 16, 639⟩ : Request)
     (∀ q ∈ full, ¬same second q) ∧ full.length = 8) := by
  simp only [Request.Before]
  decide +kernel

theorem test_meets_ReconstructorStaysInRange : ∃ t, step stepping = .next t ∧ ReconstructorInRange stepping := by
  obtain ⟨a, b, c, d, e, f, g, h⟩ := test_running_recon
  exact ⟨_, rfl, ⟨a, b, c, d, e, f, g, h⟩⟩

theorem test_meets_DrumStaysKept : ∃ t, step stepping = .next t ∧ DrumKept stepping := by
  obtain ⟨a, b, c, d, e, f⟩ := test_running_drum
  exact ⟨_, rfl, ⟨a, b, c, d, e, f⟩⟩

theorem test_meets_PumpStaysKept : ∃ t, step stepping = .next t ∧ StoresInRange stepping ∧ PumpKept stepping := by
  obtain ⟨a, b, c, d, e⟩ := test_running_stores
  obtain ⟨p1, p2, p3, p4, p5, p6, p7, p8, p9, p10, p11, p12, p13, p14, p15⟩ := test_running_pump
  exact ⟨_, rfl, ⟨a, b, c, d, e⟩, ⟨p1, p2, p3, p4, p5, p6, p7, p8, p9, p10, p11, p12, p13, p14, p15⟩⟩

theorem test_meets_RecordQueueLaw_steps : ∃ t, step stepping = .next t ∧ RecordsKept stepping := by
  obtain ⟨a, b, c⟩ := test_running_records
  exact ⟨_, rfl, ⟨a, b, c⟩⟩

theorem test_meets_DrumPeriodNumberLaw :
    drumStartDue running = true ∧
    (∃ t, exec (.drumPeriodStart true ⟨.beforeClose, true, true, true, .pump⟩) running = .next t) ∧
    (∃ t, exec .powerReset running = .next t ∧ t.drumCar.period ≠ running.drumCar.period) :=
  ⟨by decide +kernel, ⟨_, rfl⟩, ⟨_, rfl, by decide +kernel⟩⟩

theorem test_meets_DecodeOfEncodedFrame :
    let c : Instr := .setup ⟨2500, 2000, 120, 200, 80, 16, 3, 1, true⟩ true
    let f : Frame := ⟨0x1000, 0x09C4, 0x07D0, 0x0078, 0x00C8, 0x5010, 0x3081, 0xD02A⟩
    c.wellFormed = true ∧ encodeFrame c = some f ∧ (∀ fields p, c = .setup fields p → p = true) ∧
    (∀ m, c = .breakFrame m → m = Motor.drum) :=
  ⟨by decide +kernel, by decide +kernel, fun _ _ h => (Instr.setup.inj h).2.symm, fun _ h => nomatch h⟩

theorem test_meets_DamagedFramesAreDiscarded :
    (let f : Frame := ⟨0, 0, 0, 0, 0, 0, 0, 1⟩
     f ≠ ⟨0, 0, 0, 0, 0, 0, 0, 0⟩ ∧ f.w7 ≠ crcOf f.w0 f.w1 f.w2 f.w3 f.w4 f.w5 f.w6) ∧
    (List.replicate 127 false).length < 128 ∧ (15 : Nat) < 16 := by decide +kernel

/-- A low and a high side turn on. -/
theorem test_meets_OutputsTurnOnAtEnableTimesOnly :
    (∃ t, exec (.enableTimeReached .drum .b) running = .next t ∧
      ((gatesOf .drum running).get .b).low = false ∧ ((gatesOf .drum t).get .b).low = true) ∧
    (∃ t, exec (.enableTimeReached .pump .a) running = .next t ∧
      ((gatesOf .pump running).get .a).high = false ∧ ((gatesOf .pump t).get .a).high = true) :=
  ⟨⟨_, rfl, by decide +kernel⟩, ⟨_, rfl, by decide +kernel⟩⟩

/-- A phase commanded FLOAT by a fall, one commanded otherwise by a plan edge, and one whose command stays while its
enable time is marked reached. -/
theorem test_meets_OutputsTurnOnAtEnableTimesOnly_dead_time :
    let high := { running with drumCar := { running.drumCar with pos := 517 } }
    let of_a := { high with drumGates := { high.drumGates with a := ⟨.low, .reached, false, true⟩ } }
    (∃ t, exec (.faultLineFall .pump) running = .next t ∧
      ((gatesOf .pump t).get .a).commanded ≠ ((gatesOf .pump running).get .a).commanded ∧
      ((gatesOf .pump t).get .a).commanded = .float) ∧
    (∃ t, exec (.planEdge .a) of_a = .next t ∧
      ((gatesOf .drum t).get .a).commanded ≠ ((gatesOf .drum of_a).get .a).commanded ∧
      ((gatesOf .drum t).get .a).commanded ≠ .float) ∧
    (∃ t, exec (.enableTimeReached .drum .a) running = .next t ∧
      ((gatesOf .drum t).get .a).commanded = ((gatesOf .drum running).get .a).commanded) :=
  ⟨⟨_, rfl, by decide +kernel⟩, ⟨_, rfl, by decide +kernel⟩, ⟨_, rfl, by decide +kernel⟩⟩

/-- Enable times just reached; an edge of the plan at its first position; the span edge at Hp − Tp. -/
theorem test_meets_EnableTimesAndEdges :
    (running.time.running = true ∧ reached 16 running.time.tick = true ∧ reached 17 running.time.tick = false) ∧
    (running.drumGates.get .a).enable = .at 10 ∧ (running.pumpGates.get .a).enable = .at 10 ∧
    (let s := { running with drumCar := { running.drumCar with pos := 0 } }
     s.drum.state = .run ∧ s.planner.inForce = some plan ∧ s.drumCar.pos < 2 * s.drumCar.half ∧
       planLevel plan .a s.drumCar.pos ≠ (s.drumGates.get .a).commanded) ∧
    (let s :=
       { running with
         pumpCar := { running.pumpCar with pos := 1850 }
         comm := { running.comm with onTime := 150 }
         pumpGates := ⟨⟨.low, .reached, false, true⟩, ⟨.low, .reached, false, true⟩, ⟨.float, .absent, false, false⟩⟩ }
     s.pump.state.running = true ∧ s.pumpCar.pos < 2 * s.pumpCar.half ∧
       spanLevel s ≠ (s.pumpGates.get (stepRow s).high).commanded) := by decide +kernel

/-- A part under both faults, its outputs off. -/
def faulted : State :=
  { running with
    input := ⟨true, true, [true], false⟩
    drumGates := ⟨⟨.high, .reached, false, false⟩, ⟨.low, .at 10, false, false⟩, ⟨.low, .reached, false, false⟩⟩
    pumpGates := ⟨⟨.high, .at 10, false, false⟩, ⟨.low, .reached, false, false⟩, ⟨.float, .absent, false, false⟩⟩ }

theorem test_meets_FaultLinesForceAndRelease :
    (running.input.faultD = false ∧ running.drum.state ≠ .off ∧ running.drum.state ≠ .safe) ∧
    ((drumIn .off).input.faultD = false ∧ (drumIn .off).drum.state = .off) ∧
    ((drumIn .safe).input.faultD = false ∧ (drumIn .safe).drum.state = .safe) ∧
    (running.input.faultP = false ∧ running.pump.state ≠ .off ∧ running.pump.state ≠ .safe) ∧
    ((pumpIn .off).input.faultP = false ∧ (pumpIn .off).pump.state = .off) ∧
    ((pumpIn .safe).input.faultP = false ∧ (pumpIn .safe).pump.state = .safe) ∧
    faulted.input.faultD = true ∧ faulted.input.faultP = true := by decide +kernel
theorem test_faulted_gates : GatesFollow faulted := by
  intro m x
  cases m <;> cases x <;> constructor <;> decide +kernel

/-- H = 1000 and DT = 255 at their bounds; raw on-times at the ends of each clause's range. -/
theorem test_meets_OnTimesAreTrimmed :
    Within 1000 8000 1000 ∧ Within 16 255 255 ∧
    [(0 : Word), 66, 16711, 16712, 48889, 48890, 65535].map (fun d => d.toNat * 1000 / 65536) =
      [0, 1, 254, 255, 745, 746, 999] := by
  simp only [Within]
  decide +kernel

/-- Three equal on-times. -/
theorem test_meets_RankingOrdersOnTimes :
    let p := buildPlan 0 2500 80 120 ⟨32768, 32768, 32768⟩
    p.onTime.a = p.onTime.b ∧ p.onTime.b = p.onTime.c := by decide +kernel

/-- Windows that are SHORT, and windows that are not. -/
theorem test_meets_WindowsGiveRequests :
    (let p := buildPlan 0 2500 80 120 ⟨65535, 65535, 65535⟩
     p.short1 = true ∧ p.short2 = true) ∧
    plan.short1 = false ∧ plan.short2 = false := by decide +kernel

theorem test_meets_DutyFrameFillsSlot :
    Receiving (drumIn .ready) fr ∧ (drumIn .ready).link.state = .ready ∧ (drumIn .ready).drum.state = .ready ∧
    (drumIn .run).drum.state = .run ∧ (drumIn .off).drum.state = .off ∧ (drumIn .offset).drum.state = .offset ∧
    (drumIn .brake).drum.state = .brake ∧ (drumIn .safe).drum.state = .safe :=
  ⟨⟨rfl, rfl⟩, by decide +kernel⟩

/-- The plan point at its position; a full slot; the first, a second and the last miss; a stop pending. -/
theorem test_meets_PlanPointPlansOrMisses :
    let at_ := fun s : State => { s with drumCar := { s.drumCar with pos := 4800, planTaken := false } }
    let due := fun s : State => s.time.running = true ∧ s.drumCar.planTaken = false ∧
      2 * s.drumCar.half ≤ s.drumCar.pos + s.setup.lp
    let missed := fun n => at_ { running with planner := { running.planner with misses := n } }
    (let s := at_ ((drumIn .ready).withPlanner ⟨some ⟨1, 2, 3⟩, ⟨0, 0, 0⟩, 0, none, none⟩)
     due s ∧ s.planner.slot = some ⟨1, 2, 3⟩ ∧ s.drum.state = .ready) ∧
    (due (missed 0) ∧ (missed 0).planner.slot = none ∧ (missed 0).drum.state = .run ∧
      (missed 0).drum.stopPending = none ∧ (missed 0).planner.misses + 1 < (missed 0).setup.kmiss) ∧
    (missed 1).planner.misses + 1 < (missed 1).setup.kmiss ∧
    (due (missed 2) ∧ (missed 2).setup.kmiss ≤ (missed 2).planner.misses + 1) ∧
    (let s := (missed 0).withSetup { running.setup with kmiss := 1 }
     due s ∧ s.planner.slot = none ∧ s.planner.misses = 0 ∧ s.setup.kmiss ≤ s.planner.misses + 1) ∧
    (let s := at_ (running.withDrum { running.drum with stopPending := some .brake })
     due s ∧ s.drum.state = .run ∧ s.drum.stopPending.isSome = true) := by decide +kernel

/-- The drum in OFFSET in its 256th calibration period, and a pump in OFFSET likewise, at period ends. -/
def offsets : State :=
  { running with
    drum := { started.drum with state := .offset, calib := ⟨0, 0, 255, some 3⟩ }
    pump := { started.pump with state := .offset, calib := ⟨0, 0, 255, some 7⟩ }
    recon := started.recon
    planner := started.planner }

theorem test_meets_PeriodStartsMakeRequests :
    (drumStartDue offsets = true ∧ offsets.sched.queue = [] ∧ offsets.drum.state = .offset ∧
      offsets.drum.calib.periods ≠ 256) ∧
    (drumStartDue running = true ∧ running.sched.queue = [] ∧ running.drum.state = .run ∧
      running.drum.stopPending = none ∧ running.planner.prepared = some plan ∧ running.recon.overRun < 2 ∧
      running.input.permit = true ∧ (inputRow .drumShunt running).input.isSome = true ∧
      plan.request1 = some ⟨717, 1340⟩ ∧ plan.request2 = some ⟨1556, 2027⟩) ∧
    (pumpStartDue offsets = true ∧ offsets.pump.state = .offset ∧ offsets.pump.calib.periods ≠ 256) ∧
    (pumpStartDue running = true ∧ running.pump.state.running = true ∧
      (inputRow .pumpShunt running).input.isSome = true ∧
      (inputRow (phaseVoltage (stepRow running).floating) running).input.isSome = true) := by decide +kernel
/-- READY with a prepared plan, under a permit and in dry run without one, over the DrumKept of `test_ready_drum_kept`. -/
theorem test_meets_PeriodStartsMakeRequests_ready :
    let s := { drumIn .ready with drumCar := running.drumCar, planner := ⟨none, ⟨0, 0, 0⟩, 0, some plan, none⟩ }
    drumStartDue s = true ∧ s.sched.queue = [] ∧ s.drum.state = .ready ∧ s.input.permit = true ∧
    s.planner.prepared = some plan ∧ (inputRow .drumShunt s).input.isSome = true ∧
    (s.withDrum { s.drum with dry := true }).drum.dry = true := by decide +kernel
/-- OFF, BRAKE, SAFE and READY without a plan, before the 64th number and before another; a SETUP. -/
theorem test_meets_PeriodStartsMakeRequests_states :
    let at_ := fun n (s : State) => s.withDrumCar { running.drumCar with period := n }
    (drumStartDue (at_ 63 (drumIn .brake)) = true ∧ (at_ 63 (drumIn .brake)).sched.queue = [] ∧
      ((63 : Word) + 1).toNat % 64 = 0 ∧ (at_ 63 (drumIn .brake)).drum.state = .brake) ∧
    (drumStartDue (at_ 64 (drumIn .safe)) = true ∧ (at_ 64 (drumIn .safe)).drum.state = .safe ∧
      ((64 : Word) + 1).toNat % 64 ≠ 0) ∧
    ((at_ 3 (drumIn .off)).drum.state = .off ∧ drumStartDue (at_ 3 (drumIn .off)) = true) ∧
    ((at_ 3 (drumIn .ready)).drum.state = .ready ∧ (at_ 3 (drumIn .ready)).planner.prepared = none) ∧
    (started.link.frame = some fr ∧ started.link.resetN = true ∧ started.drum.state = .off ∧
      started.pump.state = .off ∧ started.sched.queue = []) := by decide +kernel
/-- A window that opens just wide enough for requests, and one just too narrow (on-times 108 and 107). -/
theorem test_meets_PeriodStartsMakeRequests_window :
    let at_ := fun d => next (exec (.pumpPeriodStart false) (running.withPump { running.pump with pendingDuty := some d }))
    2 * (at_ 3539).comm.onTime = running.setup.dt + running.setup.tsettle + 16 ∧
    2 * (at_ 3538).comm.onTime < running.setup.dt + running.setup.tsettle + 16 := by decide +kernel
theorem test_offsets_carriers : CarriersInRange offsets := by
  constructor <;> first | decide +kernel | (simp only [Within]; decide +kernel)

/-- A request ahead that is not eligible yet, one ahead that has expired, and one that may just start. -/
theorem test_meets_ArbiterStartsFirstEligible :
    let r : Request := ⟨.drum, .drumShunt, 3, 1, 16, 16⟩
    let ahead : List Request := [⟨.pump, .pumpShunt, 7, 1, 17, 101⟩, ⟨.house, .bus, 3, 1, 0, 15⟩]
    let s := waiting (ahead ++ r :: []) started
    s.sched.converter = none ∧ s.sched.queue = ahead ++ r :: [] ∧ drumStartDue s = false ∧ pumpStartDue s = false ∧
    (∀ q ∈ ahead, reached q.earliest s.time.tick = false ∨ passed q.latest s.time.tick = true) ∧
    reached r.earliest s.time.tick = true ∧ passed r.latest s.time.tick = false := by decide +kernel

/-- A conversion that ends now, for each owner. -/
theorem test_meets_ConversionYieldsItsCode :
    let c := fun o m w => (⟨⟨o, m, 3, w, 0, 0⟩, some 0, -48, 0⟩ : Conversion)
    (converting ⟨.drum, .drumShunt, 3, 2, 0, 0⟩ started).sched.converter = some (c .drum .drumShunt 2) ∧
    (converting ⟨.pump, .pumpVa, 3, 2, 0, 0⟩ started).sched.converter = some (c .pump .pumpVa 2) ∧
    (converting ⟨.house, .aux, 3, 3, 0, 0⟩ started).sched.converter = some (c .house .aux 3) ∧
    reached ((c .house .aux 3).start + 64) started.time.tick = true ∧
    reached ((c .house .aux 3).start + 65) started.time.tick = false := by decide +kernel
/-- BUS codes that begin an episode and do not; TEMP codes that bring the run to 3 and below, with the drum in RUN and
the pump running, and with neither. -/
theorem test_meets_ConversionYieldsItsCode_house :
    let rows := fun (s : State) =>
      s.withSched { s.sched with table := (s.sched.table.set 2 ⟨some 2, .fixed, 0, 300⟩).set 6 ⟨some 6, .fixed, 0, 300⟩ }
    let runs := fun n (s : State) => s.withRecon { s.recon with busHighRun := n, overTempRun := n }
    let bus := fun n => converting ⟨.house, .bus, 3, 1, 0, 0⟩ (runs n (rows running))
    let temp := fun n (s : State) => converting ⟨.house, .temp, 3, 2, 0, 0⟩ (runs n (rows s))
    let above := fun (m : Measurand) (s : State) (code : Code) =>
      (inputRow m s).trip ≠ 0 ∧ (inputRow m s).trip.toNat < (correctedValue m code (inputRow m s).offset).toNat
    (above .bus (bus 2) 301 ∧ ¬above .bus (bus 2) 300 ∧ min ((bus 2).recon.busHighRun + 1) 3 = 3 ∧
      (bus 2).recon.busHighActive = false ∧ min ((bus 1).recon.busHighRun + 1) 3 ≠ 3) ∧
    (above .temp (temp 2 running) 301 ∧ ¬above .temp (temp 2 running) 300 ∧
      min ((temp 2 running).recon.overTempRun + 1) 3 = 3 ∧ min ((temp 1 running).recon.overTempRun + 1) 3 ≠ 3 ∧
      (temp 2 running).drum.state = .run ∧ (temp 2 running).pump.state.running = true ∧
      (temp 2 started).drum.state = .off ∧ (temp 2 started).pump.state.running = false) := by decide +kernel

/-- Requests at their L and just past it; a window slot that awaits its code; an examined period. -/
theorem test_meets_ExpiredRequestIsLost :
    (let r : Request := ⟨.drum, .drumShunt, 3, 1, 0, 15⟩
     let ahead : List Request := [⟨.drum, .drumShunt, 3, 2, 0, 16⟩]
     let e : PeriodEntry := ⟨3, 0, plan, .awaited, .awaited, .awaited⟩
     let s := waiting (ahead ++ r :: []) (running.withRecon { running.recon with periodEntry := some e })
     s.sched.queue = ahead ++ r :: [] ∧ (∀ q ∈ ahead, passed q.latest s.time.tick = false) ∧
       passed r.latest s.time.tick = true ∧ s.recon.periodEntry = some e ∧ r.owner = .drum ∧ r.window = 1 ∧
       r.period = e.period) ∧
    (let r : Request := ⟨.pump, .pumpVc, 7, 2, 0, 15⟩
     let s := waiting ([] ++ r :: []) (running.withComm { running.comm with marks := [⟨7, true⟩] })
     s.sched.queue = [] ++ r :: [] ∧ passed r.latest s.time.tick = true ∧ r.owner = .pump ∧ r.window = 2 ∧
       examines r.period s = true) ∧
    (let r : Request := ⟨.house, .temp, 64, 2, 0, 15⟩
     let e : HouseEntry := ⟨64, 0, .awaited, .awaited, .notRequested⟩
     let s := waiting ([] ++ r :: []) (running.withRecon { running.recon with houseEntry := some e })
     s.sched.queue = [] ++ r :: [] ∧ passed r.latest s.time.tick = true ∧ s.recon.houseEntry = some e ∧
       r.owner = .house ∧ r.window = 2 ∧ e.temp = .awaited ∧ r.period = e.period) := by decide +kernel
/-- Section 11.4 and R72: a lost TEMP request leaves LOST in its house entry. -/
theorem test_expiry_marks_house_entry :
    let s := waiting [⟨.house, .temp, 64, 2, 0, 15⟩]
      (running.withRecon { running.recon with houseEntry := some ⟨64, 0, .awaited, .awaited, .notRequested⟩ })
    ((next (exec .requestExpiry s)).recon.houseEntry.map fun e => (e.bus, e.temp)) =
      some (.awaited, .lost .converterBusy) := by decide +kernel

theorem test_meets_SamplesGiveCurrents :
    (Measurand.pumpShunt = .drumShunt ∨ Measurand.pumpShunt = .pumpShunt) ∧
    (let raw : Code := 5
     let offset : Code := 5
     offset.toNat ≤ raw.toNat ∧ (4 : Code).toNat < offset.toNat) := by decide +kernel

/-- Codes not over and over, with the run at 2; a window without a code. -/
theorem test_meets_PeriodStartClosesEntry :
    let entry := fun a b => (⟨3, 0, plan, a, b, .awaited⟩ : PeriodEntry)
    let s := fun e : PeriodEntry => running.withRecon { running.recon with periodEntry := some e, overRun := 2 }
    drumStartDue (s (entry (.code 2110 60) .awaited)) = true ∧
    (s (entry (.code 2110 60) .awaited)).recon.periodEntry = some (entry (.code 2110 60) .awaited) ∧
    (entry (.code 2110 60) .awaited).window1 = .code 2110 60 ∧ (entry (.code 2110 60) (.code 4095 2045)).window2 = .code 4095 2045 ∧
    2 ≤ (s (entry (.code 2110 60) (.code 4095 2045))).recon.overRun ∧
    (s (entry (.code 2110 60) (.code 4095 2045))).drum.stopPending = none := by decide +kernel
theorem test_closing_drum_kept :
    DrumKept (running.withRecon { running.recon with periodEntry := some ⟨3, 0, plan, .code 2110 60, .code 4095 2045, .awaited⟩, overRun := 2 }) := by
  constructor <;> decide +kernel

/-- A drum that entered SAFE at the tick of a period start still to be taken; a house entry and a queue with room. -/
theorem test_meets_PeriodStartClosesEntry_safe :
    let s := next (exec (.faultLineFall .drum) running)
    let h := running.withRecon { running.recon with houseEntry := some ⟨3, 0, .value 9, .lost .queueFull, .notRequested⟩ }
    drumStartDue s = true ∧ s.drum.state = .safe ∧ s.recon.periodEntry = running.recon.periodEntry ∧
    s.recon.periodEntry.isSome = true ∧ drumStartDue h = true ∧ h.recon.houseEntry.isSome = true ∧
    h.rq.records.length ≤ 16 := by decide +kernel
theorem test_closing_safe_drum_kept : DrumKept (next (exec (.faultLineFall .drum) running)) := by
  constructor <;> decide +kernel

theorem test_meets_CloseWritesDrumRecord :
    (running.withRq ⟨List.replicate 30 (.notice .linkBreak 0 0), 0, false, false⟩).rq.records.length + 2 ≤ 32 := by
  decide +kernel

/-- The drum in OFFSET with a calibration code at hand: the first, and the 64th within and outside the range. -/
theorem test_meets_DrumCalibrationSamples :
    let s := fun sum codes => converting ⟨.drum, .drumShunt, 3, 1, 0, 0⟩
      (offsets.withDrum { offsets.drum with calib := ⟨sum, codes, 64, some 3⟩ })
    let c : Conversion := ⟨⟨.drum, .drumShunt, 3, 1, 0, 0⟩, some 0, -48, 0⟩
    (s 0 0).sched.converter = some c ∧ reached (c.start + 64) (s 0 0).time.tick = true ∧ c.request.owner = .drum ∧
    c.request.window = 1 ∧ (s 0 0).drum.state = .offset ∧ (s 0 0).drum.calib.period = some c.request.period ∧
    (s 0 0).drum.calib.codes + 1 ≠ 64 ∧ (s 0 63).drum.calib.codes + 1 = 64 ∧
    (1848 ≤ (116424 + (1848 : Code).toNat + 32) / 64 ∧ (116424 + (1848 : Code).toNat + 32) / 64 ≤ 2248) ∧
    ¬1848 ≤ (116424 + (1814 : Code).toNat + 32) / 64 ∧
    (inputRow .drumShunt (s 116424 63)).source = .calibrate := by decide +kernel

/-- The pump in OFFSET likewise, with a permit and without; each motor in its 256th period and in its last. -/
theorem test_meets_DrumCalibrationSamples_pump_and_limits :
    let s := fun sum codes => converting ⟨.pump, .pumpShunt, 7, 1, 0, 0⟩
      (offsets.withPump { offsets.pump with calib := ⟨sum, codes, 64, some 7⟩ })
    let barred := (s 116424 63).withInput { (s 116424 63).input with permit := false }
    let last := offsets.withDrum { offsets.drum with calib := ⟨0, 0, 256, some 3⟩ }
    let c : Conversion := ⟨⟨.pump, .pumpShunt, 7, 1, 0, 0⟩, some 0, -48, 0⟩
    (s 0 0).sched.converter = some c ∧ reached (c.start + 64) (s 0 0).time.tick = true ∧ c.request.owner = .pump ∧
    c.request.window = 1 ∧ (s 0 0).pump.state = .offset ∧ (s 0 0).pump.calib.period = some c.request.period ∧
    (s 0 0).pump.calib.codes + 1 ≠ 64 ∧ (s 0 63).pump.calib.codes + 1 = 64 ∧
    (inputRow .pumpShunt (s 116424 63)).source = .calibrate ∧ (s 116424 63).input.permit = true ∧
    (barred.input.permit = false ∧ barred.pump.dry = false ∧ barred.sched.converter = some c) ∧
    (drumStartDue offsets = true ∧ offsets.drum.state = .offset ∧ offsets.drum.calib.periods ≠ 256) ∧
    (drumStartDue last = true ∧ last.drum.state = .offset ∧ last.drum.calib.periods = 256) := by decide +kernel

/-- READY with a prepared plan, RUN, and RUN with each stop pending. -/
theorem test_meets_DrumPeriodStartBeginsPeriod :
    let ready := { drumIn .ready with
      drumCar := running.drumCar, planner := ⟨none, ⟨52000, 30000, 12000⟩, 0, some plan, none⟩ }
    let stop := fun k => running.withDrum { running.drum with stopPending := some k }
    (drumStartDue ready = true ∧ ready.input.permit = true ∧ ready.drum.state = .ready ∧ ready.planner.prepared = some plan) ∧
    (drumStartDue running = true ∧ running.drum.state = .run ∧ running.planner.prepared = some plan ∧
      running.recon.overRun < 2) ∧
    ((stop .coast).drum.state = .run ∧ (stop .coast).drum.stopPending = some .coast ∧ (stop .coast).recon.overRun < 2) ∧
    ((stop .brake).drum.state = .run ∧ (stop .brake).drum.stopPending = some .brake) := by decide +kernel
/-- A third INACTIVE sample with each motor in each of the states, and a third ACTIVE one. -/
theorem test_meets_DrumPeriodStartBeginsPeriod_permit :
    let active := fun s : State => { s with drumCar := running.drumCar, input := ⟨false, false, [true, false, false], true⟩ }
    let inactive := fun s : State => { s with drumCar := running.drumCar, input := ⟨false, false, [false, true, true], false⟩ }
    let sampled := fun permit (s : State) => (s.input.history ++ [permit]).drop (s.input.history.length + 1 - 3)
    let dry := fun s : State => (s.withDrum { s.drum with dry := true }).withPump { s.pump with dry := true }
    let ready := (drumIn .ready).withPlanner ⟨none, ⟨52000, 30000, 12000⟩, 0, some plan, none⟩
    let loses := fun s => drumStartDue (active s) = true ∧ sampled false (active s) = [false, false, false] ∧ s.recon.overRun < 2
    let gains := fun s => drumStartDue (inactive s) = true ∧ sampled true (inactive s) = [true, true, true] ∧
      (inactive s).input.permit = false
    (loses running ∧ running.drum.state = .run ∧ running.drum.stopPending = none ∧ running.drum.dry = false ∧
      running.pump.state.running = true ∧ running.pump.dry = false) ∧
    (loses (dry running) ∧ (dry running).drum.state = .run ∧ (dry running).pump.state.running = true) ∧
    (loses (drumIn .safe) ∧ loses (pumpIn .safe) ∧ (pumpIn .safe).pump.state = .safe) ∧
    (loses (drumIn .brake) ∧ loses (pumpIn .offset) ∧ loses offsets ∧ offsets.drum.calib.periods ≠ 256) ∧
    (loses ready ∧ ready.drum.state = .ready ∧ ready.planner.prepared = some plan ∧ ready.drum.dry = false ∧
      (active ready).setup = ready.setup) ∧
    (gains ready ∧ gains started ∧ gains running) := by decide +kernel
theorem test_meets_DrumPeriodStartBeginsPeriod_gates :
    GatesFollow { running with input := ⟨false, false, [true, false, false], true⟩ } ∧
    GatesFollow { started with drumCar := running.drumCar, input := ⟨false, false, [false, true, true], false⟩ } := by
  constructor <;> (intro m x; cases m <;> cases x <;> (constructor <;> decide +kernel))
theorem test_stopping_drum_kept : DrumKept (running.withDrum { running.drum with stopPending := some .coast }) := by
  constructor <;> decide +kernel
theorem test_ready_drum_kept :
    DrumKept { drumIn .ready with drumCar := running.drumCar, planner := ⟨none, ⟨0, 0, 0⟩, 0, some plan, none⟩ } := by
  constructor <;> decide +kernel

/-- The conditions of a drum START, one after the other. -/
theorem test_meets_StartDrumByFirstCondition :
    let s := started
    let bare := s.withSched { s.sched with table := s.sched.table.set 0 ⟨none, .fixed, 0, 0⟩ }
    let fixed := s.withSched { s.sched with table := s.sched.table.set 0 ⟨some 0, .fixed, 2050, 3000⟩ }
    let barred := s.withInput { s.input with permit := false }
    let failed := s.withInput { s.input with faultD := true }
    Receiving s fr ∧ s.link.state = .ready ∧ (drumIn .run).drum.state ≠ .off ∧
    (bare.drum.state = .off ∧ (inputRow .drumShunt bare).input = none) ∧
    ((inputRow .drumShunt barred).input.isSome = true ∧ barred.input.permit = false ∧ barred.drum.dry = false) ∧
    (¬(failed.input.permit = false ∧ failed.drum.dry = false) ∧ failed.input.faultD = true) ∧
    (s.input.faultD = false ∧ (inputRow .drumShunt s).source = .calibrate) ∧
    (inputRow .drumShunt fixed).source = .fixed :=
  ⟨⟨rfl, rfl⟩, by decide +kernel⟩

theorem test_meets_StopsByState :
    Receiving (drumIn .brake) fr ∧ (drumIn .brake).link.state = .ready ∧ (drumIn .off).drum.state = .off ∧
    (drumIn .offset).drum.state = .offset ∧ (drumIn .run).drum.state = .run ∧ (drumIn .brake).drum.state = .brake ∧
    (drumIn .safe).drum.state = .safe ∧ Receiving (pumpIn .ramp) fr ∧ (pumpIn .ramp).link.state = .ready ∧
    (pumpIn .off).pump.state = .off ∧ (pumpIn .ramp).pump.state = .ramp ∧ (pumpIn .safe).pump.state = .safe :=
  ⟨⟨rfl, rfl⟩, by decide +kernel, by decide +kernel, by decide +kernel, by decide +kernel, by decide +kernel,
    by decide +kernel, ⟨rfl, rfl⟩, by decide +kernel⟩

theorem test_meets_ClearLeavesSafe :
    Receiving (drumIn .safe) fr ∧ Receiving (pumpIn .safe) fr ∧ (drumIn .safe).link.state = .ready ∧
    (pumpIn .safe).link.state = .ready ∧
    (drumIn .off).drum.state ≠ .safe ∧ (pumpIn .off).pump.state ≠ .safe ∧
    ((drumIn .safe).drum.state = .safe ∧ (drumIn .safe).input.faultD = false ∧ (drumIn .safe).input.permit = true) ∧
    ((pumpIn .safe).pump.state = .safe ∧ (pumpIn .safe).input.faultP = false ∧ (pumpIn .safe).input.permit = true) :=
  ⟨⟨rfl, rfl⟩, ⟨rfl, rfl⟩, by decide +kernel⟩

/-- An empty and a full snapshot slot of each motor. -/
theorem test_meets_EntriesToSafe :
    running.drum.snapshot = none ∧ running.pump.snapshot = none ∧
    (running.withDrum { running.drum with snapshot := some default }).drum.snapshot.isSome = true ∧
    (running.withPump { running.pump with snapshot := some default }).pump.snapshot.isSome = true := by decide +kernel

theorem test_meets_SafeEntriesHaveListedCauses :
    DrumKept running ∧
    (∃ t, exec (.faultLineFall .drum) running = .next t ∧ running.drum.state ≠ .safe ∧ t.drum.state = .safe) ∧
    (∃ t, exec (.faultLineFall .pump) running = .next t ∧ running.pump.state ≠ .safe ∧ t.pump.state = .safe) :=
  ⟨test_running_drum, ⟨_, rfl, by decide +kernel⟩, ⟨_, rfl, by decide +kernel⟩⟩

theorem test_meets_StepIndexMovesByCommutations :
    let s := running.withComm { running.comm with due := some 1, stepZc := some 0 }
    ∃ t, exec .dueCommutation s = .next t ∧ (s.pump.state = .ramp ∨ s.pump.state = .closed) ∧
      (t.pump.state = .ramp ∨ t.pump.state = .closed) ∧ t.comm.stepIndex ≠ s.comm.stepIndex :=
  ⟨_, rfl, by decide +kernel⟩

theorem test_meets_SequenceCheckWalksTheTable :
    let t : Vector CommutationRow 6 :=
      #v[⟨.b, .a, .c, .rising⟩, ⟨.b, .c, .a, .falling⟩, ⟨.a, .c, .b, .rising⟩, ⟨.a, .b, .c, .falling⟩,
         ⟨.c, .b, .a, .rising⟩, ⟨.c, .a, .b, .falling⟩]
    sequencePasses t = true ∧ ∀ r : Fin 6, t[r].valid = true := by decide +kernel

theorem test_meets_DueCommutationMakesStep :
    let s := fun report => { running with
      comm := { running.comm with due := some 1, stepZc := some 0 }, pump := { running.pump with report := report } }
    (s true).pump.state = .closed ∧ (s true).comm.due = some 1 ∧ reached 1 (s true).time.stepTick = true ∧
    (s true).pump.report = true ∧ (s false).pump.report = false := by decide +kernel

/-- The deadline reached now, at the last miss below Kzc, at the first and at Kzc. -/
theorem test_meets_TimeoutForcesOrStalls :
    let s := fun n => running.withComm { running.comm with deadline := some 1, zcMisses := n }
    (s 0).pump.state = .closed ∧ (s 0).comm.stepZc = none ∧ (s 0).comm.deadline = some 1 ∧
    reached 1 (s 0).time.stepTick = true ∧ (s 0).comm.zcMisses = 0 ∧
    (s 2).comm.zcMisses + 1 < (s 2).pump.profile.kzc ∧ (s 3).pump.profile.kzc ≤ (s 3).comm.zcMisses + 1 := by
  decide +kernel

/-- The ramp commutation time reached: within a row, at the end of a row, and at the end of the last. -/
theorem test_meets_RampCommutationWalksRamp :
    let s := fun p => (pumpIn .ramp).withPump { (pumpIn .ramp).pump with rampTime := some 1, rampPosition := some p }
    ((s ⟨0, 10⟩).pump.state = .ramp ∧ (s ⟨0, 10⟩).pump.rampTime = some 1 ∧
      reached 1 (s ⟨0, 10⟩).time.stepTick = true ∧ (s ⟨0, 10⟩).pump.rampPosition = some ⟨0, 10⟩) ∧
    10 + 1 < ((s ⟨0, 10⟩).pump.ramp[(0 : Fin 16)]).repeats ∧ ((s ⟨0, 11⟩).pump.ramp[(0 : Fin 16)]).repeats ≤ 11 + 1 ∧
    (1 < (s ⟨0, 11⟩).pump.rampLength) ∧
    (((s ⟨3, 23⟩).pump.ramp[(3 : Fin 16)]).repeats ≤ 23 + 1 ∧ (s ⟨3, 23⟩).pump.rampLength ≤ 3 + 1) := by decide +kernel

/-- The third examined code on the new side, at each polarity; its commutation not yet due. -/
theorem test_meets_ThirdSampleAcceptsCrossing :
    let s := fun (r : Fin 6) =>
      converting ⟨.pump, .pumpVc, 7, 2, 0, 0⟩ { running with
        sched := { running.sched with busReading := 2000 }
        comm := { running.comm with zcRun := 2, firstSample := some 0, marks := [⟨7, true⟩], stepIndex := r } }
    let c : Conversion := ⟨⟨.pump, .pumpVc, 7, 2, 0, 0⟩, some 0, -48, 0⟩
    (s 0).sched.converter = some c ∧ reached (c.start + 64) (s 0).time.tick = true ∧ (s 0).pump.state = .closed ∧
    (s 0).comm.stepZc = none ∧ (s 0).comm.zcRun = 2 ∧ (s 0).comm.firstSample = some 0 ∧ (s 0).comm.lastZc = some 0 ∧
    (⟨7, true⟩ : DetectionMark) ∈ (s 0).comm.marks ∧
    (polarityInForce (s 0) = .falling ∧ correctedValue .pumpVc 999 0 < 1000) ∧
    (polarityInForce (s 3) = .rising ∧ 1000 < correctedValue .pumpVc 1001 0) ∧
    reached (0 + BitVec.ofNat 32 ((9020 + 8970 + 9010 + 9000 + 8980 + 0) * (240 - 64) / 2880)) (s 0).time.stepTick = false := by
  decide +kernel

/-- A code on the old side; runs 0 and 1; a code that is not examined; a due time that has passed; and RAMP with the
interval just near the row's, just past it, and the stable count below Nstable and at it. -/
theorem test_meets_ThirdSampleAcceptsCrossing_other :
    let s := fun run (t : State) =>
      converting ⟨.pump, .pumpVc, 7, 2, 0, 0⟩ { t with
        sched := { t.sched with busReading := 2000 }
        comm := { t.comm with zcRun := run, firstSample := some 0, marks := [⟨7, true⟩] } }
    let ramp := fun last stable => s 2 { running with
      comm := { running.comm with lastZc := some last }
      pump := { running.pump with
        state := .ramp, rampPosition := some ⟨3, 0⟩, rampTime := some 9, stable := stable } }
    let row := running.pump.ramp[(3 : Fin 16)]
    (polarityInForce (s 2 running) = .falling ∧ ¬correctedValue .pumpVc 1000 0 < 1000) ∧
    ((s 0 running).comm.zcRun = 0 ∧ (s 1 running).comm.zcRun = 1 ∧ (s 1 running).comm.firstSample = some 0) ∧
    (⟨7, true⟩ : DetectionMark) ∉ running.comm.marks ∧
    reached (0 + BitVec.ofNat 32 (([] : List Nat).sum * (240 - 64) / 2880)) (s 2 running).time.stepTick = true ∧
    ((ramp 0 0).pump.state = .ramp ∧ (ramp 0 0).pump.rampPosition = some ⟨3, 0⟩ ∧ (ramp 0 0).comm.stepZc = none) ∧
    (let near := fun l : Tick => (0 - l).toNat ≤ row.interval + row.interval / 4 ∧
       row.interval ≤ (0 - l).toNat + row.interval / 4
     near (-BitVec.ofNat 32 (row.interval + row.interval / 4)) ∧
       ¬near (-BitVec.ofNat 32 (row.interval + row.interval / 4 + 1))) ∧
    (ramp 0 4).pump.stable + 1 < running.pump.profile.nstable ∧
    running.pump.profile.nstable ≤ (ramp 0 (running.pump.profile.nstable - 1)).pump.stable + 1 := by decide +kernel

/-- A sample below the trip, at 4095 with the run at 1 and at 2, and one that belongs to the present run. -/
theorem test_meets_CurrentSampleCountsAndTrips :
    let s := fun run => converting ⟨.pump, .pumpShunt, 7, 1, 0, 0⟩
      ((pumpIn .align).withPump { (pumpIn .align).pump with overRun := run, alignEntry := some (-48) })
    let c : Conversion := ⟨⟨.pump, .pumpShunt, 7, 1, 0, 0⟩, some 0, -48, 0⟩
    (s 1).sched.converter = some c ∧ reached (c.start + 64) (s 1).time.tick = true ∧ (s 1).pump.state = .align ∧
    (s 1).pump.alignEntry = some (-48) ∧ reached (-48) c.start = true ∧
    (s 1).pump.overRun < 2 ∧ 2 ≤ (s 2).pump.overRun ∧
    ¬((4094 : Code) = 4095 ∨ ((inputRow .pumpShunt (s 1)).trip.toNat ≠ 0 ∧
      ((inputRow .pumpShunt (s 1)).trip.toNat : Int) < correctedValue .pumpShunt 4094 2048)) := by decide +kernel

theorem test_meets_PumpPeriodStartFixesOnTime :
    let at_ := fun s : State => s.withPumpCar running.pumpCar
    pumpStartDue running = true ∧ pumpStartDue (at_ (pumpIn .off)) = true ∧ pumpStartDue (at_ (pumpIn .align)) = true ∧
    (pumpIn .off).pump.state = .off ∧ (pumpIn .align).pump.state = .align ∧
    (pumpStartDue offsets = true ∧ offsets.pump.state = .offset ∧ offsets.pump.calib.periods ≠ 256) ∧
    (let s := offsets.withPump { offsets.pump with calib := ⟨0, 0, 256, some 7⟩ }
     pumpStartDue s = true ∧ s.pump.state = .offset ∧ s.pump.calib.periods = 256) ∧
    (let s := at_ ((pumpIn .ramp).withPump { (pumpIn .ramp).pump with rampPosition := some ⟨3, 0⟩ })
     pumpStartDue s = true ∧ s.pump.state = .ramp ∧ s.pump.rampPosition = some ⟨3, 0⟩) ∧
    (running.pump.state = .closed ∧ running.pump.pendingDuty = some 4916) ∧
    (pumpIn .closed).pump.pendingDuty = none := by decide +kernel

/-- An examined period start with a window too narrow, in a step without and with an accepted crossing; one not examined,
and one with room. -/
theorem test_meets_PumpPeriodStartFixesOnTime_narrow :
    let at_ := fun d b z => (running.withPump { running.pump with pendingDuty := some d }).withComm
      { running.comm with blanking := b, stepZc := z, zcRun := 2, firstSample := some 9 }
    let narrow := fun s : State =>
      2 * (next (exec (.pumpPeriodStart false) s)).comm.onTime < s.setup.dt + s.setup.tsettle + 16
    (narrow (at_ 3538 0 none) ∧ narrow (at_ 3538 0 (some 8)) ∧ narrow (at_ 3538 1 none)) ∧ ¬narrow (at_ 3539 0 none) ∧
    (at_ 3538 0 none).pump.state = .closed ∧ (at_ 3538 0 none).sched.queue = [] := by decide +kernel

/-- The peak in OFF, in ALIGN before its last period and in its last. -/
theorem test_meets_PumpPeakEndsAlign :
    let s := fun n => { pumpIn .align with
      pumpCar := ⟨2000, 2000, 2000, 7, false⟩, pump := { (pumpIn .align).pump with alignCount := n } }
    (s 0).time.running = true ∧ (s 0).pumpCar.peakTaken = false ∧ (s 0).pumpCar.half ≤ (s 0).pumpCar.pos ∧
    (s 1999).pump.alignCount < (s 1999).pump.profile.alignPeriods ∧ (s 2000).pump.state = .align ∧
    (s 2000).pump.profile.alignPeriods ≤ (s 2000).pump.alignCount := by decide +kernel

/-- The conditions of a pump START, one after the other. -/
theorem test_meets_StartPumpByFirstCondition :
    let s := started
    let bare := s.withSched { s.sched with table := s.sched.table.set 4 ⟨none, .fixed, 0, 0⟩ }
    let fixed := s.withSched { s.sched with table := s.sched.table.set 1 ⟨some 1, .fixed, 2050, 3000⟩ }
    let looped := s.withComm { s.comm with table := s.comm.table.set 1 ⟨.a, .b, .c, .rising⟩ }
    let barred := s.withInput { s.input with permit := false }
    let failed := s.withInput { s.input with faultP := true }
    Receiving s fr ∧ s.link.state = .ready ∧ (pumpIn .closed).pump.state ≠ .off ∧
    (bare.pump.state = .off ∧ (inputRow .pumpVb bare).input = none) ∧
    sequencePasses looped.comm.table = false ∧
    (sequencePasses barred.comm.table = true ∧ barred.input.permit = false ∧ barred.pump.dry = false) ∧
    (failed.input.permit = true ∧ failed.input.faultP = true) ∧
    (s.input.faultP = false ∧ (inputRow .pumpShunt s).source = .calibrate) ∧
    (inputRow .pumpShunt fixed).source = .fixed :=
  ⟨⟨rfl, rfl⟩, by decide +kernel⟩

theorem test_meets_PumpAndRateFrames :
    Receiving (pumpIn .off) fr ∧ (pumpIn .off).link.state = .ready ∧ 2 ≤ (2 : BitVec 2).toNat ∧
    directionOf 1 = some .reverse ∧ (pumpIn .off).pump.state = .off ∧ (pumpIn .safe).pump.state = .safe ∧
    ((pumpIn .closed).pump.state ≠ .off ∧ (pumpIn .closed).pump.state ≠ .safe ∧
      .reverse ≠ (pumpIn .closed).comm.direction ∧ .forward = (pumpIn .closed).comm.direction) ∧
    ((999 : Word) ≠ 0 ∧ (999 : Word).toNat < 1000) ∧
    ¬((8000 : Word) ≠ 0 ∧ ((8000 : Word).toNat < 1000 ∨ 8000 < (8000 : Word).toNat)) :=
  ⟨⟨rfl, rfl⟩, by decide +kernel⟩

theorem test_meets_FrameBeginFixesUpstream :
    let s := fun records => (unselected started).withRq ⟨records, 0, true, false⟩
    (s []).link.resetN = true ∧ (s []).link.selected = false ∧ (s []).rq.records = [] ∧
    (s [resetNotice .pin]).rq.records = resetNotice .pin :: [] ∧
    (s (List.replicate 32 (resetNotice .pin))).rq.records.length ≤ 32 := by decide +kernel

/-- With RESET_N low; with a frame that began before RESET_N returned; with LSEL high. -/
theorem test_meets_FramesNotTakenAndFramesWhole :
    let low := started.withLink { started.link with resetN := false, frame := none }
    let stale := started.withLink { started.link with frame := none }
    completesFrame .fill = true ∧ completesFrame (.shortFrame 0) = true ∧ low.link.resetN = false ∧
    (stale.link.frame = none ∧ stale.link.selected = true) ∧
    ((unselected started).link.resetN = true ∧ (unselected started).link.frame = none ∧
      (unselected started).link.selected = false) := by decide +kernel

theorem test_meets_FramesAnsweredOnly :
    Receiving (awaiting started) fr ∧ (awaiting started).link.state = .awaitSetup ∧ needsReady .startPump = true ∧
    Receiving started fr ∧ started.link.state = .ready :=
  ⟨⟨rfl, rfl⟩, rfl, rfl, ⟨rfl, rfl⟩, rfl⟩

/-- The check-error counter below, at and past the threshold, and saturated. -/
theorem test_meets_DamagedFramesAreCounted :
    let s := fun n => started.withLink { started.link with checkErrors := n }
    Receiving (s 15) fr ∧
    (min ((s 14).link.checkErrors + 1) 65535 ≠ (s 14).setup.threshold) ∧
    (min ((s 15).link.checkErrors + 1) 65535 = (s 15).setup.threshold ∧ (s 15).link.checkErrors < 65535) ∧
    (s 65535).link.checkErrors = 65535 :=
  ⟨⟨rfl, rfl⟩, by decide +kernel⟩

theorem test_meets_SecondBreakFrameIsLinkBreak :
    let s := fun n (t : State) => t.withLink { t.link with breakRun := n }
    Receiving (s 1 running) fr ∧ (s 0 running).link.breakRun ≠ 1 ∧ (s 1 running).link.breakRun = 1 ∧
    (running.drum.state = .run ∧ running.pump.state.running = true) ∧
    ((s 1 (drumIn .safe)).drum.state = .safe ∧ (s 1 (pumpIn .safe)).pump.state = .safe) ∧
    ((s 1 started).drum.state = .off ∧ (s 1 started).pump.state = .off) :=
  ⟨⟨rfl, rfl⟩, by decide +kernel⟩

theorem test_meets_SetupFrameStartsCarriers :
    Receiving running fr ∧ running.link.state = .ready ∧ running.drum.state ≠ .off ∧ Receiving (awaiting started) fr ∧
    started.drum.state = .off ∧ started.pump.state = .off :=
  ⟨⟨rfl, rfl⟩, rfl, by decide +kernel, ⟨rfl, rfl⟩, rfl, rfl⟩

theorem test_meets_TableFramesReplaceRows :
    Receiving started fr ∧ started.link.state = .ready ∧ (drumIn .run).drum.state ≠ .off ∧
    started.drum.state = .off ∧ started.pump.state = .off ∧
    (measurandOf 8 = none ∧ sourceOf 2 = none ∧ inputOf 14 = none) ∧
    (measurandOf 7 = some .aux ∧ sourceOf 1 = some .fixed ∧ inputOf 15 = some none ∧ inputOf 7 = some (some 7)) ∧
    (6 ≤ (6 : BitVec 4).toNat ∧ commutationRowOf 0 1 3 0 = none) ∧
    (commutationRowOf 0 1 1 0 = some ⟨.a, .b, .b, .falling⟩ ∧ commutationRowOf 2 0 1 1 = some ⟨.c, .a, .b, .rising⟩) ∧
    (6 ≤ (6 : BitVec 3).toNat ∧ (5 : BitVec 3).toNat = (5 : Fin 6).val ∧ (15 : BitVec 4).toNat = (15 : Fin 16).val) :=
  ⟨⟨rfl, rfl⟩, by decide +kernel⟩

/-- An input of NONE with two requests of the measurand queued, and one of another. -/
theorem test_meets_TableFramesReplaceRows_none :
    let s := waiting [⟨.drum, .drumShunt, 3, 1, 16, 600⟩, ⟨.house, .bus, 4, 1, 16, 600⟩, ⟨.drum, .drumShunt, 3, 2, 16, 639⟩] started
    Receiving s fr ∧ s.link.state = .ready ∧ s.drum.state = .off ∧ s.pump.state = .off ∧
    (measurandOf 0 = some .drumShunt ∧ sourceOf 1 = some .fixed ∧ inputOf 15 = some none) ∧
    (s.sched.queue.filter fun q => decide (q.measurand = .drumShunt)).length = 2 :=
  ⟨⟨rfl, rfl⟩, by decide +kernel⟩

theorem test_meets_FlagControls :
    Receiving started fr ∧ started.link.state = .ready ∧ (drumIn .brake).drum.state ≠ .off ∧
    (pumpIn .closed).pump.state ≠ .off ∧ started.drum.state = .off ∧ started.pump.state = .off ∧
    (∀ x, started.drumGates.get x = ⟨.float, .absent, false, false⟩) ∧
    (∀ x, started.pumpGates.get x = ⟨.float, .absent, false, false⟩) :=
  ⟨⟨rfl, rfl⟩, rfl, by decide +kernel, by decide +kernel, rfl, rfl, fun x => by cases x <;> rfl,
    fun x => by cases x <;> rfl⟩

/-- A queue with room for one, and a full one. -/
theorem test_meets_RecordQueueLaw :
    let s := fun n => running.withRq ⟨List.replicate n (resetNotice .pin), 0, false, true⟩
    (s 31).rq.records.length < 32 ∧
    ((s 32).rq.records = resetNotice .pin :: resetNotice .pin :: List.replicate 30 (resetNotice .pin) ∧
      32 ≤ (s 32).rq.records.length) := by decide +kernel

theorem test_meets_QueriesAnswerWithPages :
    Receiving started fr ∧ (5 : BitVec 4).toNat = (5 : Fin 6).val ∧ (15 : BitVec 4).toNat = (15 : Fin 16).val ∧
    (7 : BitVec 4).toNat = (7 : Fin 8).val ∧ 6 ≤ (6 : BitVec 4).toNat ∧ 8 ≤ (8 : BitVec 4).toNat :=
  ⟨⟨rfl, rfl⟩, by decide +kernel⟩

theorem test_meets_ResetsGiveResetValues :
    running.link.resetN = true ∧ (∃ t, exec .pinReset running = .next t ∧ t.link.resetN = false) ∧
    Receiving running fr ∧ running.link.state = .ready := ⟨rfl, ⟨_, rfl, rfl⟩, ⟨rfl, rfl⟩, rfl⟩

end Sys2Proof.Tests
end

section
/-! PROOFS. The plan arithmetic: on-times (R29, R30), the ranking (R31), the half on-times (R33 to R35), the windows and
their requests (R36, R38), and the HIGH time of a plan (R37, R41). -/

namespace Sys2Proof.Machine

/-! ### On-times (R29, R30) -/

/-- A fraction is below 1, so a raw on-time never reaches the half-period (R29). -/
theorem rawOnTime_lt {half : Nat} (d : Word) (h : 0 < half) : rawOnTime d half < half :=
  Nat.div_lt_of_lt_mul (Nat.mul_lt_mul_of_pos_right d.isLt h)

theorem rawOnTime_le (d : Word) (half : Nat) : rawOnTime d half ≤ half :=
  Nat.div_le_of_le_mul (Nat.mul_le_mul_right half d.isLt.le)

theorem trimPulse_le {half t : Nat} (dt : Nat) (h : t ≤ half) : trimPulse half dt t ≤ half := by
  unfold trimPulse
  split
  · exact Nat.zero_le half
  · split
    · exact le_rfl
    · exact h

/-- The two trimmed ranges, and what the minimum-pulse rule keeps (R30). -/
theorem trimPulse_cases {half dt t : Nat} (hdt : 0 < dt) (hhalf : 2 * dt < half) (ht : t < half) :
    (0 < t → t < dt → trimPulse half dt t = 0) ∧ (half - dt < t → trimPulse half dt t = half) ∧
    (t = 0 ∨ Within dt (half - dt) t → trimPulse half dt t = t) ∧
    (trimPulse half dt t = 0 ∨ trimPulse half dt t = half ∨ Within dt (half - dt) (trimPulse half dt t)) := by
  unfold trimPulse Within
  refine ⟨fun h0 h1 => if_pos ⟨h0, h1⟩, fun h => ?_, fun h => ?_, ?_⟩
  · rw [if_neg (by omega), if_pos (by omega)]
  · rw [if_neg (by omega), if_neg (by omega)]
  · split
    · exact .inl rfl
    · split <;> omega

/-! ### A plan by its own on-times and ranking -/

section
variable (period : Word) (half dt tsettle : Nat) (d : PerPhase Word)

theorem buildPlan_onTime (x : Phase) :
    (buildPlan period half dt tsettle d).onTime.get x = trimPulse half dt (rawOnTime (d.get x) half) := by
  simp [buildPlan]

theorem buildPlan_onTime_le (x : Phase) : (buildPlan period half dt tsettle d).onTime.get x ≤ half := by
  rw [buildPlan_onTime]
  exact trimPulse_le dt (rawOnTime_le (d.get x) half)

theorem PerPhase.ne_iff {α : Type} {v w : PerPhase α} : v ≠ w ↔ ∃ x, v.get x ≠ w.get x := by
  constructor
  · intro h
    by_contra hx
    push Not at hx
    have ha : v.a = w.a := hx .a
    have hb : v.b = w.b := hx .b
    have hc : v.c = w.c := hx .c
    cases v
    cases w
    simp_all
  · rintro ⟨x, hx⟩ rfl
    exact hx rfl

theorem buildPlan_trimmed :
    (buildPlan period half dt tsettle d).trimmed = true ↔
      ∃ x, (buildPlan period half dt tsettle d).onTime.get x ≠ rawOnTime (d.get x) half := by
  simp only [buildPlan, decide_eq_true_eq, PerPhase.ne_iff, PerPhase.get_map]

end

/-- Settles O13: the bounds of the raw on-time, then the cases of the minimum-pulse rule, for each phase and for any
fraction. -/
theorem onTimesAreTrimmed : Obligations.OnTimesAreTrimmed := by
  unfold Obligations.OnTimesAreTrimmed
  intro half dt ⟨hlo, hhi⟩ ⟨dlo, dhi⟩ raw trimmed
  have htrim : ∀ d : Word, trimmed d (trimPulse half dt (rawOnTime d half)) := fun d =>
    ⟨rawOnTime_lt d (by omega), trimPulse_cases (by omega) (by omega) (rawOnTime_lt d (by omega))⟩
  refine ⟨?_, ?_, fun period tsettle d => ⟨fun x => ?_, buildPlan_trimmed period half dt tsettle d⟩, htrim⟩
  · simp [raw]
  · simp only [raw, BitVec.toNat_ofNat]
    omega
  · rw [buildPlan_onTime]
    exact htrim (d.get x)

/-! ### The ranking (R31) -/

/-- The place of a phase among equal on-times (R31). -/
def tieOrder : Phase → Nat
  | .a => 0
  | .b => 1
  | .c => 2

/-- `x` is ranked before `y`: the larger on-time first, equal ones in the order A, B, C (R31). -/
def RankedBefore (t : PerPhase Nat) (x y : Phase) : Prop :=
  t.get y < t.get x ∨ (t.get x = t.get y ∧ tieOrder x < tieOrder y)

theorem RankedBefore.le {t : PerPhase Nat} {x y : Phase} (h : RankedBefore t x y) : t.get y ≤ t.get x := by
  rcases h with h | ⟨h, -⟩
  · exact h.le
  · exact h.ge

theorem rankOnTimes_ordered (t : PerPhase Nat) :
    RankedBefore t (rankOnTimes t).maxPhase (rankOnTimes t).midPhase ∧
    RankedBefore t (rankOnTimes t).midPhase (rankOnTimes t).minPhase ∧
    RankedBefore t (rankOnTimes t).maxPhase (rankOnTimes t).minPhase := by
  unfold rankOnTimes
  split_ifs <;>
    simp only [RankedBefore, Ranking.maxPhase, Ranking.midPhase, Ranking.minPhase, PerPhase.get, tieOrder] <;> omega

theorem Ranking.names_each_phase (r : Ranking) (x : Phase) : x = r.maxPhase ∨ x = r.midPhase ∨ x = r.minPhase := by
  cases r <;> cases x <;> decide

theorem rankOnTimes_of_eq {t : PerPhase Nat} (hab : t.a = t.b) (hbc : t.b = t.c) : rankOnTimes t = .abc := by
  rw [rankOnTimes, if_pos hab.ge, if_pos hbc.ge]


/-- Settles O14, from the order of the ranking of any three on-times. -/
theorem rankingOrdersOnTimes : Obligations.RankingOrdersOnTimes := by
  unfold Obligations.RankingOrdersOnTimes
  intro period half dt tsettle d p r index before
  have hbefore : ∀ x y, RankedBefore p.onTime x y → before x y := by
    intro x y h
    cases x <;> cases y <;> exact h
  obtain ⟨hmaxmid, hmidmin, hmaxmin⟩ := rankOnTimes_ordered p.onTime
  exact ⟨hbefore _ _ hmaxmid, hbefore _ _ hmidmin, hbefore _ _ hmaxmin, r.names_each_phase, rankOnTimes_of_eq⟩

/-! ### The half on-times (R33 to R35) -/

@[simp] theorem Ranking.place_get_max {α : Type} (r : Ranking) (hi mid lo : α) :
    (r.place hi mid lo).get r.maxPhase = hi := by cases r <;> rfl

@[simp] theorem Ranking.place_get_mid {α : Type} (r : Ranking) (hi mid lo : α) :
    (r.place hi mid lo).get r.midPhase = mid := by cases r <;> rfl

@[simp] theorem Ranking.place_get_min {α : Type} (r : Ranking) (hi mid lo : α) :
    (r.place hi mid lo).get r.minPhase = lo := by cases r <;> rfl

/-- The applied on-time of a plan's max phase (R31). -/
def Plan.maxTime (p : Plan) : Nat := p.onTime.get p.ranking.maxPhase

/-- The applied on-time of a plan's mid phase (R31). -/
def Plan.midTime (p : Plan) : Nat := p.onTime.get p.ranking.midPhase

/-- The applied on-time of a plan's min phase (R31). -/
def Plan.minTime (p : Plan) : Nat := p.onTime.get p.ranking.minPhase

/-- The shift that a plan's window 1 needs (R33). -/
def Plan.firstShift (dt tsettle : Nat) (p : Plan) : Nat :=
  shiftFor (minWindow dt tsettle) (p.maxTime - p.midTime) (p.half - p.maxTime) p.maxTime

/-- The shift that a plan's window 2 needs (R34). -/
def Plan.secondShift (dt tsettle : Nat) (p : Plan) : Nat :=
  shiftFor (minWindow dt tsettle) (p.midTime - p.minTime) p.minTime (p.half - p.minTime)

/-- A shift stays within the room of both halves (R33, R34). -/
theorem shiftFor_le (wmin w room1 room2 : Nat) :
    shiftFor wmin w room1 room2 ≤ room1 ∧ shiftFor wmin w room1 room2 ≤ room2 := by
  unfold shiftFor
  split <;> omega

section
variable {period : Word} {half dt tsettle : Nat} {d : PerPhase Word} {p : Plan}
  (hp : p = buildPlan period half dt tsettle d)
include hp

theorem plan_times_ordered : p.minTime ≤ p.midTime ∧ p.midTime ≤ p.maxTime ∧ p.maxTime ≤ half := by
  subst hp
  obtain ⟨hmaxmid, hmidmin, -⟩ := rankOnTimes_ordered (buildPlan period half dt tsettle d).onTime
  exact ⟨hmidmin.le, hmaxmid.le, buildPlan_onTime_le period half dt tsettle d _⟩

theorem plan_halves :
    p.up = p.ranking.place (p.maxTime + p.firstShift dt tsettle) p.midTime (p.minTime - p.secondShift dt tsettle) ∧
    p.down = p.ranking.place (p.maxTime - p.firstShift dt tsettle) p.midTime (p.minTime + p.secondShift dt tsettle) ∧
    (p.shift1 = true ↔ 0 < p.firstShift dt tsettle) ∧ (p.shift2 = true ↔ 0 < p.secondShift dt tsettle) := by
  subst hp
  exact ⟨rfl, rfl, decide_eq_true_iff, decide_eq_true_iff⟩

theorem plan_shifts_le :
    (p.firstShift dt tsettle ≤ half - p.maxTime ∧ p.firstShift dt tsettle ≤ p.maxTime) ∧
    p.secondShift dt tsettle ≤ p.minTime ∧ p.secondShift dt tsettle ≤ half - p.minTime := by
  subst hp
  exact ⟨shiftFor_le .., shiftFor_le ..⟩

/-- Each half on-time fits its half of the period, and the shift that one half gains the other gives up (R35). -/
theorem plan_half_sum (x : Phase) :
    p.up.get x ≤ half ∧ p.down.get x ≤ half ∧ p.up.get x + p.down.get x = 2 * p.onTime.get x := by
  obtain ⟨hup, hdown, -, -⟩ := plan_halves hp
  obtain ⟨hminmid, hmidmax, hmax⟩ := plan_times_ordered hp
  obtain ⟨⟨hfirst, hfirst'⟩, hsecond, hsecond'⟩ := plan_shifts_le hp
  rw [hup, hdown]
  rcases p.ranking.names_each_phase x with hx | hx | hx
  · rw [hx, Ranking.place_get_max, Ranking.place_get_max, ← Plan.maxTime]
    omega
  · rw [hx, Ranking.place_get_mid, Ranking.place_get_mid, ← Plan.midTime]
    omega
  · rw [hx, Ranking.place_get_min, Ranking.place_get_min, ← Plan.minTime]
    omega

/-- The windows and requests of a plan, by its shifts (R36, R38). -/
theorem plan_windows :
    p.short1 = decide (p.maxTime - p.midTime + p.firstShift dt tsettle < minWindow dt tsettle) ∧
    p.short2 = decide (p.midTime - p.minTime + p.secondShift dt tsettle < minWindow dt tsettle) ∧
    p.window1 = (if p.short1 then none else some ⟨half - p.maxTime - p.firstShift dt tsettle, half - p.midTime⟩) ∧
    p.window2 = (if p.short2 then none else some ⟨half - p.midTime, half - p.minTime + p.secondShift dt tsettle⟩) ∧
    p.request1 = windowRequest dt tsettle p.window1 ∧ p.request2 = windowRequest dt tsettle p.window2 := by
  subst hp
  exact ⟨rfl, rfl, rfl, rfl, rfl, rfl⟩

end

/-- Settles O15: the half on-times are placed by the ranking, and each pair sums to twice the on-time. -/
theorem halfOnTimesKeepVoltSeconds : Obligations.HalfOnTimesKeepVoltSeconds := by
  unfold Obligations.HalfOnTimesKeepVoltSeconds
  intro period half dt tsettle d p tmax tmid tmin wmin s1 s2
  have hp : p = buildPlan period half dt tsettle d := rfl
  obtain ⟨hup, hdown, hshift1, hshift2⟩ := plan_halves hp
  have hsum := plan_half_sum hp
  refine ⟨?_, ?_, ?_, ?_, ?_, ?_, hshift1, hshift2, hsum⟩
  · rw [hup, Ranking.place_get_max]; rfl
  · rw [hdown, Ranking.place_get_max]; rfl
  · rw [hup, Ranking.place_get_mid]; rfl
  · rw [hdown, Ranking.place_get_mid]; rfl
  · rw [hup, Ranking.place_get_min]; rfl
  · rw [hdown, Ranking.place_get_min]; rfl

/-! ### Windows and requests (R36, R38) -/

/-- A window as wide as Wmin leaves its request exactly the room above Wmin (R38). -/
theorem windowRequest_span {dt tsettle start stop width : Nat} (hstop : stop = start + width)
    (hwide : minWindow dt tsettle ≤ width) :
    ∃ q, windowRequest dt tsettle (some ⟨start, stop⟩) = some q ∧ q.earliest = start + dt + tsettle ∧
      q.latest + 16 = stop ∧ q.latest = q.earliest + (width - (dt + tsettle + 16)) := by
  simp only [minWindow, Config.acquisition] at hwide
  refine ⟨_, rfl, rfl, ?_, ?_⟩ <;> simp only [Config.acquisition] <;> omega


/-- Settles O16: either a window is SHORT, or its width after the shift is the room its request spans. -/
theorem windowsGiveRequests : Obligations.WindowsGiveRequests := by
  unfold Obligations.WindowsGiveRequests
  intro period half dt tsettle d p tmax tmid tmin s1 s2 wmin
  have hp : p = buildPlan period half dt tsettle d := rfl
  obtain ⟨hup, hdown, -, -⟩ := plan_halves hp
  obtain ⟨hminmid, hmidmax, hmax⟩ := plan_times_ordered hp
  obtain ⟨⟨hroom, -⟩, -⟩ := plan_shifts_le hp
  obtain ⟨hshort1, hshort2, hwindow1, hwindow2, hrequest1, hrequest2⟩ := plan_windows hp
  have hs1 : s1 = p.firstShift dt tsettle := by
    simp only [s1, hup, Ranking.place_get_max]
    exact Nat.add_sub_cancel_left ..
  have hs2 : s2 = p.secondShift dt tsettle := by
    simp only [s2, hdown, Ranking.place_get_min]
    exact Nat.add_sub_cancel_left ..
  rw [hs1, hs2]
  refine ⟨?_, ?_, fun h => ?_, fun h => ?_, fun h => ?_, fun h => ?_⟩
  · rw [hshort1]
    exact decide_eq_true_iff
  · rw [hshort2]
    exact decide_eq_true_iff
  · rw [hrequest1, hwindow1, if_pos h]
    exact ⟨rfl, rfl⟩
  · rw [hrequest2, hwindow2, if_pos h]
    exact ⟨rfl, rfl⟩
  · rw [hrequest1, hwindow1, h]
    have hwide := not_lt.mp (of_decide_eq_false (hshort1.symm.trans h))
    have hstop : half - p.midTime =
        half - p.maxTime - p.firstShift dt tsettle + (p.maxTime - p.midTime + p.firstShift dt tsettle) := by omega
    exact ⟨rfl, windowRequest_span hstop hwide⟩
  · rw [hrequest2, hwindow2, h]
    have hwide := not_lt.mp (of_decide_eq_false (hshort2.symm.trans h))
    have hstop : half - p.minTime + p.secondShift dt tsettle =
        half - p.midTime + (p.midTime - p.minTime + p.secondShift dt tsettle) := by omega
    exact ⟨rfl, windowRequest_span hstop hwide⟩

/-! ### The HIGH time of a plan (R37, R41) -/

/-- The positions of a range that lie from `lo` up to, not including, `hi`. -/
theorem length_filter_range_span (n lo hi : Nat) :
    ((List.range n).filter fun i => decide (lo ≤ i ∧ i < hi)).length = min n hi - lo := by
  induction n with
  | zero => simp
  | succ n ih =>
    rw [List.range_succ, List.filter_append, List.length_append, ih]
    by_cases h : lo ≤ n ∧ n < hi
    · simp only [List.filter_singleton, h, and_self, decide_true, cond_true, List.length_singleton]
      omega
    · simp only [List.filter_singleton, h, decide_false, cond_false, List.length_nil]
      omega

theorem planLevel_eq_high (p : Plan) (x : Phase) (pos : Nat) :
    planLevel p x pos = .high ↔ p.half ≤ pos + p.up.get x ∧ pos < p.half + p.down.get x := by
  unfold planLevel
  split <;> simp_all


/-- Settles O17: the HIGH positions of a phase run from H − u up to H + v, and u + v is twice its on-time (R35). -/
theorem planHighTicksAreTwiceOnTime : Obligations.PlanHighTicksAreTwiceOnTime := by
  unfold Obligations.PlanHighTicksAreTwiceOnTime
  intro period half dt tsettle d x p
  obtain ⟨hup, hdown, hsum⟩ := plan_half_sum (p := p) rfl x
  have hspan : ∀ pos, planLevel p x pos = .high ↔ half - p.up.get x ≤ pos ∧ pos < half + p.down.get x := by
    intro pos
    rw [planLevel_eq_high, show p.half = half from rfl, Nat.sub_le_iff_le_add]
  simp only [hspan]
  rw [length_filter_range_span]
  omega

end Sys2Proof.Machine
end

section
/-! PROOFS. Frames that the part is receiving: their completion (R146, R153, R159, R160), and the DUTY frame (R20, R21). -/

namespace Sys2Proof.Machine

/-! ### The completion of a frame -/

/-- The completion of a frame under way decides it on the state that has sent its upstream frame (R146, R159). -/
theorem decideFrame_receiving {s : State} {fr : FrameInProgress} (h : Receiving s fr) (b : Body) :
    decideFrame b s = runBody b (endBreakRun (sentWhole fr s)) := by
  obtain ⟨hreset, hframe⟩ := h
  simp [decideFrame, atCompletion, hreset, hframe]

theorem whenReady_of_ready {s : State} (h : s.link.state = .ready) (b : Body) : whenReady b s = b s := if_pos h

theorem sent_eq_queueAfter (fr : FrameInProgress) (s : State) : s.rq.sent fr = queueAfter fr s := by
  simp only [RecordQueue.sent, queueAfter]
  cases fr.headerGap && !fr.displaced <;> simp

/-- A frame sent whole has ended with 128 bits and its record has left; nothing else has changed (R146, R149, R159). -/
theorem endBreakRun_sentWhole (fr : FrameInProgress) (s : State) :
    endBreakRun (sentWhole fr s) =
      { s with
        rq := queueAfter fr s
        link :=
          { s.link with bitCount := 128, shift := 0, frame := none, ldo := false, selected := false, breakRun := 0 } } := by
  rw [sentWhole, sent_eq_queueAfter]
  rfl

/-- A body that changes nothing leaves the Link Port and the Record Queue of the answered frame alone (R153). -/
theorem setResult_sentWhole (r : Result) (fr : FrameInProgress) (s : State) :
    setResult r (endBreakRun (sentWhole fr s)) = answered fr r s := by
  rw [endBreakRun_sentWhole, setResult_eq]
  rfl

/-! ### The DUTY frame (R20, R21) -/

theorem dutyBody_of_ready_or_run {s : State} (h : s.drum.state = .ready ∨ s.drum.state = .run) (d : PerPhase Word) :
    dutyBody d s = (fillSlot d s, .ok) := by
  rcases h with h | h <;> simp [dutyBody, h]

theorem dutyBody_of_elsewhere {s : State}
    (h : s.drum.state = .off ∨ s.drum.state = .offset ∨ s.drum.state = .brake ∨ s.drum.state = .safe)
    (d : PerPhase Word) : dutyBody d s = (s, .badState) := by
  rcases h with h | h | h | h <;> simp [dutyBody, h]

/-- The slot holds the fractions, and DUTY_OVERWRITE is set when it was full (R21). -/
theorem fillSlot_eq (d : PerPhase Word) (s : State) :
    fillSlot d s =
      { s with
        planner := { s.planner with slot := some d }
        link :=
          { s.link with
            flags := { s.link.flags with dutyOverwrite := s.link.flags.dutyOverwrite || s.planner.slot.isSome } } } := by
  cases h : s.planner.slot.isSome <;>
    simp [fillSlot, h, setDutyOverwrite, State.withFlags, State.withLink, State.withPlanner]

/-- Settles O18: what the completion leaves, then the DUTY frame's effect by the drum state. -/
theorem dutyFrameFillsSlot : Obligations.DutyFrameFillsSlot := by
  unfold Obligations.DutyFrameFillsSlot
  intro d s fr hrec hready
  have hexec : exec (.duty d) s = .next (runBody (dutyBody d) (endBreakRun (sentWhole fr s))) := by
    have hlink : (endBreakRun (sentWhole fr s)).link.state = .ready := hready
    change Host.Outcome.next (decideFrame (whenReady (dutyBody d)) s) = _
    rw [decideFrame_receiving hrec]
    simp only [runBody, whenReady_of_ready hlink]
  have hdrum : (endBreakRun (sentWhole fr s)).drum.state = s.drum.state := rfl
  refine ⟨fun h => ?_, fun h => ?_⟩
  · rw [hexec, runBody, dutyBody_of_ready_or_run (hdrum ▸ h), fillSlot_eq, endBreakRun_sentWhole, setResult_eq]
    simp only [State.withLink, linkAfter, Result.refused, Bool.or_false]
  · rw [hexec, runBody, dutyBody_of_elsewhere (hdrum ▸ h), setResult_sentWhole]

end Sys2Proof.Machine
end

section
/-! PROOFS. What the two motors may do at an event that neither starts one, nor counts a miss, nor resets the part: the
relation `Steady`, and that each operation of the model keeps to it. -/

namespace Sys2Proof.Machine

/-! ### The relation -/

/-- The drum is in a state from which it may be planned for: OFFSET, READY or RUN (R26). -/
def DrumOn (s : State) : Prop := s.drum.state = .offset ∨ s.drum.state = .ready ∨ s.drum.state = .run

/-- The pump is in a state that can count a timeout or lead to one: OFFSET, ALIGN, RAMP or CLOSED (R122). -/
def PumpOn (s : State) : Prop := s.pump.state = .offset ∨ s.pump.state.running = true

/-- The drum's side of a steady event: no limit or miss count moves, the drum is not switched on, and its parts go on
agreeing with its state. -/
structure DrumSteady (s t : State) : Prop where
  setup : t.setup = s.setup
  misses : t.planner.misses = s.planner.misses
  on : DrumOn t → DrumOn s
  off : s.drum.state = .off → t.drum.state = .off
  kept : DrumKept s → DrumKept t

/-- The pump's side of a steady event: the limit stands, no miss is counted, and the pump is not switched on. -/
structure PumpSteady (s t : State) : Prop where
  profile : t.pump.profile = s.pump.profile
  misses : t.comm.zcMisses ≤ s.comm.zcMisses
  on : PumpOn t → PumpOn s
  off : s.pump.state = .off → t.pump.state = .off

/-- What an event leaves of the motors that starts none, counts no miss and resets nothing. -/
structure Steady (s t : State) : Prop where
  link : t.link.state = s.link.state
  drum : DrumSteady s t
  pump : PumpSteady s t

/-- The parts that the drum's laws read stand as they were. -/
@[simp] def SameDrum (s t : State) : Prop :=
  t.time = s.time ∧ t.drumCar = s.drumCar ∧ t.setup = s.setup ∧ t.planner = s.planner ∧ t.drum.state = s.drum.state ∧
  t.drum.cause.isSome = s.drum.cause.isSome ∧ t.drum.stopPending = s.drum.stopPending ∧
  t.recon.periodEntry.isSome = s.recon.periodEntry.isSome

/-- The parts that the pump's law reads stand as they were. -/
@[simp] def SamePump (s t : State) : Prop :=
  t.pump.state = s.pump.state ∧ t.pump.profile = s.pump.profile ∧ t.comm.zcMisses = s.comm.zcMisses

theorem DrumSteady.still {s t : State} (h : SameDrum s t) : DrumSteady s t := by
  obtain ⟨time, car, setup, planner, state, cause, stop, entry⟩ := h
  have due : drumStartDue t = drumStartDue s := by simp only [drumStartDue, time, car]
  refine ⟨setup, by rw [planner], fun on => ?_, fun off => state.trans off, fun kept => ⟨?_, ?_, ?_, ?_, ?_, ?_⟩⟩
  · simpa only [DrumOn, state] using on
  · simpa only [cause, state] using kept.cause
  · simpa only [stop, state] using kept.stop
  · simpa only [planner, state] using kept.slot
  · simpa only [planner, state] using kept.prepared
  · simpa only [planner, state] using kept.inForce
  · simpa only [entry, state, due] using kept.entry

theorem PumpSteady.still {s t : State} (h : SamePump s t) : PumpSteady s t := by
  obtain ⟨state, profile, misses⟩ := h
  exact ⟨profile, misses.le, fun on => by simpa only [PumpOn, state] using on, fun off => state.trans off⟩

/-- An event that touches neither motor. -/
theorem Steady.still {s t : State} (link : t.link.state = s.link.state) (drum : SameDrum s t) (pump : SamePump s t) :
    Steady s t := ⟨link, .still drum, .still pump⟩

theorem Steady.refl (s : State) : Steady s s := .still rfl (by simp) (by simp)

theorem DrumSteady.trans {s t u : State} (h : DrumSteady s t) (k : DrumSteady t u) : DrumSteady s u where
  setup := k.setup.trans h.setup
  misses := k.misses.trans h.misses
  on := fun on => h.on (k.on on)
  off := fun off => k.off (h.off off)
  kept := fun kept => k.kept (h.kept kept)

theorem PumpSteady.trans {s t u : State} (h : PumpSteady s t) (k : PumpSteady t u) : PumpSteady s u where
  profile := k.profile.trans h.profile
  misses := k.misses.trans h.misses
  on := fun on => h.on (k.on on)
  off := fun off => k.off (h.off off)

theorem Steady.trans {s t u : State} (h : Steady s t) (k : Steady t u) : Steady s u :=
  ⟨k.link.trans h.link, h.drum.trans k.drum, h.pump.trans k.pump⟩

/-- Two effects at the motors' state controls, whichever goes first. -/
theorem bothMotors_steady {onDrum onPump : State → State} (hd : ∀ s, Steady s (onDrum s))
    (hp : ∀ s, Steady s (onPump s)) (first : Motor) (s : State) : Steady s (bothMotors first onDrum onPump s) := by
  cases first with
  | drum => exact (hd s).trans (hp _)
  | pump => exact (hp s).trans (hd _)

theorem takeIf_steady {f : State → State} (h : ∀ s, Steady s (f s)) (b : Bool) (s : State) :
    Steady s (takeIf b f s) := by
  cases b with
  | true => exact h s
  | false => exact .refl s

/-! ### Gates and records -/

theorem drive_steady (m : Motor) (x : Phase) (d : Drive) (s : State) : Steady s (drive m x d s) :=
  .still (by simp) (by simp) (by simp)

theorem applyForcing_steady (m : Motor) (f : Forcing) (s : State) : Steady s (applyForcing m f s) :=
  .still (by simp) (by simp) (by simp)

theorem takeEnable_steady (m : Motor) (x : Phase) (s : State) : Steady s (takeEnable m x s) :=
  .still (by simp) (by simp) (by simp)

theorem joinRecord_steady (r : Record) (s : State) : Steady s (joinRecord r s) :=
  .still (by simp) (by simp) (by simp)

theorem joinNotice_steady (n : Notice) (s : State) : Steady s (joinNotice n s) :=
  .still (by simp) (by simp) (by simp)

theorem withFlags_steady (f : StickyFlags) (s : State) : Steady s (s.withFlags f) :=
  .still rfl (by simp [State.withFlags]) (by simp [State.withFlags])

@[simp] theorem setSnapshotLost_linkState (s : State) : (setSnapshotLost s).link.state = s.link.state := rfl

theorem setResult_steady (r : Result) (s : State) : Steady s (setResult r s) :=
  .still (by simp [setResult_eq]) (by simp) (by simp)

/-! ### Drum State Control -/

theorem drumStartDue_congr {s t : State} (time : t.time = s.time) (car : t.drumCar = s.drumCar) :
    drumStartDue t = drumStartDue s := by
  simp only [drumStartDue, time, car]

@[simp] theorem enterDrumState_drum (st : DrumState) (s : State) :
    (enterDrumState st s).drum = { s.drum with state := st, stopPending := none } := by
  simp [enterDrumState]

@[simp] theorem enterDrumState_planner (st : DrumState) (s : State) :
    (enterDrumState st s).planner = s.planner.atDrumState st := by
  simp [enterDrumState]

@[simp] theorem changeDrum_drum (st : DrumState) (s : State) :
    (changeDrum st s).drum = { s.drum with state := st, stopPending := none } := by
  simp [changeDrum]

@[simp] theorem changeDrum_planner (st : DrumState) (s : State) :
    (changeDrum st s).planner = s.planner.atDrumState st := by
  simp [changeDrum]

@[simp] theorem changeDrum_linkState (st : DrumState) (s : State) :
    (changeDrum st s).link.state = s.link.state := by
  simp [changeDrum]

@[simp] theorem atDrumState_misses (p : Planner) (st : DrumState) : (p.atDrumState st).misses = p.misses := rfl

/-- R23: what a drum state leaves full in the planner. -/
theorem atDrumState_isSome (p : Planner) (st : DrumState) :
    ((p.atDrumState st).slot.isSome = true → st = .ready ∨ st = .run) ∧
    ((p.atDrumState st).prepared.isSome = true → st = .ready ∨ st = .run) ∧
    ((p.atDrumState st).inForce.isSome = true → st = .run) := by
  cases st <;> simp [Planner.atDrumState, DrumState.emptiesSlot]

/-- A change to a state other than SAFE makes the drum's parts agree with it, if there is no cause record and no period
entry that RUN alone may have (R23, R71, R94). -/
theorem changeDrum_keeps {st : DrumState} {s : State} (safe : st ≠ .safe) (cause : s.drum.cause = none)
    (entry : s.recon.periodEntry.isSome = true → st = .run ∨ drumStartDue s = true) : DrumKept (changeDrum st s) := by
  obtain ⟨slot, prepared, inForce⟩ := atDrumState_isSome s.planner st
  have due : drumStartDue (changeDrum st s) = drumStartDue s := drumStartDue_congr (by simp) (by simp)
  constructor
  case cause => simp [cause, safe]
  case stop => simp
  case slot => simpa using slot
  case prepared => simpa using prepared
  case inForce => simpa using inForce
  case entry => simpa [due] using entry

theorem DrumKept.cause_eq_none {s : State} (h : DrumKept s) (safe : s.drum.state ≠ .safe) : s.drum.cause = none := by
  cases hc : s.drum.cause with
  | none => rfl
  | some c => exact absurd (h.cause.1 (by rw [hc]; rfl)) safe

/-- A change of state that does not switch the drum on, and leaves RUN only without a period entry. -/
theorem changeDrum_steady {st : DrumState} {s : State} (safe : st ≠ .safe) (before : s.drum.state ≠ .safe)
    (on : st = .offset ∨ st = .ready ∨ st = .run → DrumOn s) (off : s.drum.state = .off → st = .off)
    (entry : s.drum.state = .run → s.recon.periodEntry = none) : Steady s (changeDrum st s) where
  link := by simp
  pump := .still (by simp)
  drum :=
    { setup := by simp
      misses := by simp
      on := by simpa [DrumOn] using on
      off := by simpa using off
      kept := fun kept => changeDrum_keeps safe (kept.cause_eq_none before) fun held => by
        rcases kept.entry held with run | due
        · simp [entry run] at held
        · exact .inr due }

@[simp] theorem takeDrumSnapshot_parts (x : DrumSnapshot) (s : State) :
    (takeDrumSnapshot x s).drum.state = s.drum.state ∧ (takeDrumSnapshot x s).drum.cause = s.drum.cause ∧
    (takeDrumSnapshot x s).drum.stopPending = s.drum.stopPending ∧
    (takeDrumSnapshot x s).link.state = s.link.state := by
  unfold takeDrumSnapshot
  split <;> simp

@[simp] theorem enterDrumSafe_parts (c : Cause) (s : State) :
    (enterDrumSafe c s).drum.state = .safe ∧ (enterDrumSafe c s).drum.cause = some ⟨c, .empty⟩ ∧
    (enterDrumSafe c s).drum.stopPending = none ∧ (enterDrumSafe c s).planner = s.planner.atDrumState .safe ∧
    (enterDrumSafe c s).recon.periodEntry = endingEntry s ∧ (enterDrumSafe c s).link.state = s.link.state := by
  simp [enterDrumSafe]

theorem endingEntry_isSome {s : State} (h : (endingEntry s).isSome = true) : drumStartDue s = true := by
  unfold endingEntry at h
  split at h
  · assumption
  · cases h

/-- In SAFE there is a cause record, no stop, no entry and no plan, and a period entry only until the period start that
is due (R23, R96; log 35). -/
theorem enterDrumSafe_keeps (c : Cause) (s : State) : DrumKept (enterDrumSafe c s) := by
  obtain ⟨slot, prepared, inForce⟩ := atDrumState_isSome s.planner .safe
  have due : drumStartDue (enterDrumSafe c s) = drumStartDue s := drumStartDue_congr (by simp) (by simp)
  constructor
  case cause => simp
  case stop => simp
  case slot => simpa using slot
  case prepared => simpa using prepared
  case inForce => simpa using inForce
  case entry => simpa [due] using endingEntry_isSome

theorem enterDrumSafe_steady (c : Cause) {s : State} (h : s.drum.state ≠ .off) : Steady s (enterDrumSafe c s) where
  link := by simp
  pump := .still (by simp)
  drum :=
    { setup := by simp
      misses := by simp
      on := by simp [DrumOn]
      off := fun off => absurd off h
      kept := fun _ => enterDrumSafe_keeps c s }

theorem addDrumCause_steady (c : Cause) (s : State) : Steady s (addDrumCause c s) :=
  .still (by simp) (by simp [addDrumCause]) (by simp)

theorem drumGateFault_steady (s : State) : Steady s (drumGateFault s) := by
  unfold drumGateFault
  split <;> rename_i h
  case h_1 => exact .refl s
  case h_6 => exact addDrumCause_steady _ s
  all_goals exact enterDrumSafe_steady _ (by simp [h])

theorem drumPermitLost_steady (s : State) : Steady s (drumPermitLost s) := by
  unfold drumPermitLost
  split <;> rename_i h
  case h_1 =>
    split
    · exact .refl s
    · exact enterDrumSafe_steady _ (by simp [h])
  case h_2 => exact addDrumCause_steady _ s
  all_goals exact .refl s

theorem drumOverTemp_steady (s : State) : Steady s (drumOverTemp s) := by
  unfold drumOverTemp
  split <;> rename_i h
  case h_1 | h_2 => exact enterDrumSafe_steady _ (by simp [h])
  all_goals exact .refl s

theorem drumLinkBreak_steady (s : State) : Steady s (drumLinkBreak s) := by
  unfold drumLinkBreak
  split <;> rename_i h
  case h_1 | h_2 => exact enterDrumSafe_steady _ (by simp [h])
  case h_3 => exact addDrumCause_steady _ s
  all_goals exact .refl s

theorem drumOvercurrent_steady (s : State) : Steady s (drumOvercurrent s) := by
  unfold drumOvercurrent
  split <;> rename_i h
  · exact enterDrumSafe_steady _ (by simp [h])
  · exact .refl s

theorem writeOffset_steady (m : Measurand) (n : Nat) (s : State) : Steady s (writeOffset m n s) :=
  .still (by simp) (by simp) (by simp)

/-- The end of the calibration takes a drum in OFFSET to READY or SAFE (R87). -/
theorem endDrumCalibration_steady {s : State} (h : s.drum.state = .offset) : Steady s (endDrumCalibration s) := by
  unfold endDrumCalibration
  simp only
  split
  · refine ((writeOffset_steady _ _ s).trans (joinNotice_steady _ _)).trans (changeDrum_steady ?_ ?_ ?_ ?_ ?_) <;>
      simp [h, DrumOn]
  · exact enterDrumSafe_steady _ (by simp [h])

theorem drumCalibrationCode_steady (p : Word) (raw : Code) (s : State) : Steady s (drumCalibrationCode p raw s) := by
  unfold drumCalibrationCode
  split
  case isTrue h =>
    have sampled : Steady s (s.withDrum { s.drum with calib := s.drum.calib.sample raw }) :=
      .still rfl (by simp) (by simp)
    simp only
    split
    · exact sampled.trans (endDrumCalibration_steady h.1)
    · exact sampled
  case isFalse => exact .refl s

/-! ### Pump Commutator and Pump State Control -/

/-- An event that is the pump's alone. -/
theorem Steady.of_pump {s t : State} (link : t.link.state = s.link.state)
    (drum : t.time = s.time ∧ t.drumCar = s.drumCar ∧ t.setup = s.setup ∧ t.planner = s.planner ∧
      t.drum = s.drum ∧ t.recon = s.recon)
    (pump : PumpSteady s t) : Steady s t := by
  obtain ⟨time, car, setup, planner, control, recon⟩ := drum
  exact ⟨link, .still (by simp [*]), pump⟩

@[simp] theorem stopPump_parts (st : PumpState) (s : State) :
    (stopPump st s).pump.state = st ∧ (stopPump st s).pump.profile = s.pump.profile ∧
    (stopPump st s).comm.zcMisses = s.comm.zcMisses := by
  simp [stopPump]

theorem pumpOff_steady (s : State) : Steady s (pumpOff s) :=
  .of_pump (by simp [pumpOff, pumpStateNotice]) (by simp)
    ⟨by simp [pumpOff, pumpStateNotice], by simp [pumpOff, pumpStateNotice],
      by simp [PumpOn, pumpOff, pumpStateNotice, PumpState.running], fun _ => by simp [pumpOff, pumpStateNotice]⟩

/-- The pump goes on from a state it was switched on in. -/
theorem PumpSteady.of_on {s t : State} (on : PumpOn s) (profile : t.pump.profile = s.pump.profile)
    (misses : t.comm.zcMisses = s.comm.zcMisses) : PumpSteady s t :=
  ⟨profile, misses.le, fun _ => on, fun off => by simp [PumpOn, off, PumpState.running] at on⟩

theorem enterAlign_steady {s : State} (on : PumpOn s) : Steady s (enterAlign s) :=
  .of_pump (by simp [enterAlign, pumpStateNotice]) (by simp)
    (.of_on on (by simp [enterAlign, pumpStateNotice]) (by simp [enterAlign, pumpStateNotice]))

theorem enterRamp_steady {s : State} (on : PumpOn s) : Steady s (enterRamp s) :=
  .of_pump (by simp [enterRamp, pumpStateNotice]) (by simp)
    (.of_on on (by simp [enterRamp, pumpStateNotice]) (by simp [enterRamp, pumpStateNotice]))

theorem enterClosed_steady (d : Word) {s : State} (on : PumpOn s) : Steady s (enterClosed d s) :=
  .of_pump (by simp [enterClosed, pumpStateNotice]) (by simp)
    (.of_on on (by simp [enterClosed, pumpStateNotice]) (by simp))

@[simp] theorem takePumpSnapshot_parts (x : PumpSnapshot) (s : State) :
    (takePumpSnapshot x s).pump.state = s.pump.state ∧ (takePumpSnapshot x s).pump.profile = s.pump.profile ∧
    (takePumpSnapshot x s).link.state = s.link.state := by
  unfold takePumpSnapshot
  split <;> simp

@[simp] theorem enterPumpSafe_parts (c : Cause) (s : State) :
    (enterPumpSafe c s).pump.state = .safe ∧ (enterPumpSafe c s).pump.profile = s.pump.profile ∧
    (enterPumpSafe c s).comm.zcMisses = s.comm.zcMisses ∧ (enterPumpSafe c s).link.state = s.link.state := by
  simp [enterPumpSafe]

theorem enterPumpSafe_steady (c : Cause) {s : State} (h : s.pump.state ≠ .off) : Steady s (enterPumpSafe c s) :=
  .of_pump (by simp) (by simp)
    ⟨by simp, by simp, by simp [PumpOn, PumpState.running], fun off => absurd off h⟩

theorem addPumpCause_steady (c : Cause) (s : State) : Steady s (addPumpCause c s) :=
  .still (by simp) (by simp) (by simp [addPumpCause])

theorem pumpGateFault_steady (s : State) : Steady s (pumpGateFault s) := by
  unfold pumpGateFault
  split <;> rename_i h
  case h_1 => exact .refl s
  case h_6 => exact addPumpCause_steady _ s
  all_goals exact enterPumpSafe_steady _ (by simp [h])

theorem pumpPermitLost_steady (s : State) : Steady s (pumpPermitLost s) := by
  unfold pumpPermitLost
  split <;> rename_i h
  case h_4 => exact addPumpCause_steady _ s
  case h_5 | h_6 => exact .refl s
  all_goals
    split
    · exact .refl s
    · exact enterPumpSafe_steady _ (by simp [h])

theorem PumpState.running_ne_off {st : PumpState} (h : st.running = true) : st ≠ .off := by
  rintro rfl
  cases h

theorem pumpOverTemp_steady (s : State) : Steady s (pumpOverTemp s) := by
  unfold pumpOverTemp
  split <;> rename_i h
  · exact enterPumpSafe_steady _ (PumpState.running_ne_off h)
  · exact .refl s

theorem pumpLinkBreak_steady (s : State) : Steady s (pumpLinkBreak s) := by
  unfold pumpLinkBreak
  split <;> rename_i h
  case h_4 => exact addPumpCause_steady _ s
  case h_5 | h_6 => exact .refl s
  all_goals exact enterPumpSafe_steady _ (by simp [h])

theorem reportStep_steady (k : StepKind) (s : State) : Steady s (reportStep k s) := by
  unfold reportStep
  split
  · exact joinRecord_steady _ s
  · exact .refl s

/-- A commutation leaves the pump's state, its limit and its miss count. -/
theorem commutate_still (k : StepKind) (v : Option Tick) (s : State) :
    (commutate k v s).pump.state = s.pump.state ∧ (commutate k v s).pump.profile = s.pump.profile ∧
    (commutate k v s).comm.zcMisses = s.comm.zcMisses := by
  simp [commutate, clearCurrent]

theorem commutate_steady (k : StepKind) (v : Option Tick) (s : State) : Steady s (commutate k v s) :=
  .still (by simpa [commutate] using (reportStep_steady k s).link) (by simp) (commutate_still k v s)

theorem timeCommutation_steady (z : Tick) (s : State) : Steady s (timeCommutation z s) := by
  have timed : ∀ due, Steady s (s.withComm { s.comm with due := due, deadline := none, zcMisses := 0 }) := fun _ =>
    .of_pump rfl (by simp) ⟨rfl, Nat.zero_le _, id, id⟩
  unfold timeCommutation
  simp only
  split
  · exact (timed _).trans (commutate_steady _ _ _)
  · exact timed _

theorem countStable_steady (i : Option Nat) {s : State} (h : s.pump.state = .ramp) : Steady s (countStable i s) := by
  have counted : ∀ n, Steady s (s.withPump { s.pump with stable := n }) := fun _ => .still rfl (by simp) (by simp)
  unfold countStable
  split
  · exact .refl s
  · simp only
    split
    · split
      · exact (counted _).trans (enterClosed_steady _ (by simp [PumpOn, h, PumpState.running]))
      · exact counted _
    · exact counted _

theorem acceptCrossing_steady (z : Tick) (s : State) : Steady s (acceptCrossing z s) := by
  unfold acceptCrossing
  extract_lets interval _ t u
  have accepted : Steady s t := .still rfl (by simp [t]) ⟨rfl, rfl, rfl⟩
  have counted : Steady t u := by
    simp only [u]
    split
    case isTrue h => exact countStable_steady interval h
    case isFalse => exact .refl t
  split
  · exact (accepted.trans counted).trans (timeCommutation_steady z u)
  · exact accepted.trans counted

theorem advanceRamp_steady {s : State} (h : s.pump.state = .ramp) : Steady s (advanceRamp s) := by
  have moved : ∀ p t, Steady s (s.withPump { s.pump with rampPosition := p, rampTime := t }) := fun _ _ =>
    .still rfl (by simp) (by simp)
  unfold advanceRamp
  split
  · exact .refl s
  · simp only
    split
    · exact moved _ _
    · split
      · exact moved _ _
      · exact enterPumpSafe_steady _ (by simp [h])

theorem rampCommutation_steady {s : State} (h : s.pump.state = .ramp) : Steady s (rampCommutation s) := by
  unfold rampCommutation
  extract_lets t
  have commutated : Steady s t := commutate_steady _ _ s
  have ramp : t.pump.state = .ramp := (commutate_still _ _ s).1.trans h
  split
  · exact commutated.trans (advanceRamp_steady ramp)
  · have unstable : Steady t (t.withPump { t.pump with stable := 0 }) := .still rfl (by simp) (by simp)
    exact (commutated.trans unstable).trans (advanceRamp_steady ramp)

theorem addSample_still (v : Int) (s : State) :
    (addSample v s).pump.state = s.pump.state ∧ (addSample v s).pump.profile = s.pump.profile ∧
    (addSample v s).comm.zcMisses = s.comm.zcMisses := by
  unfold addSample
  split <;> simp

theorem currentSample_steady (raw : Code) (v : Int) {s : State} (h : s.pump.state ≠ .off) :
    Steady s (currentSample raw v s) := by
  unfold currentSample
  extract_lets t u
  have added : Steady s t := .still (by simp [t]) (by simp [t]) (addSample_still v s)
  have on : t.pump.state ≠ .off := by rwa [(addSample_still v s).1]
  have counted : ∀ n, Steady t (t.withPump { t.pump with overRun := n }) := fun _ => .still rfl (by simp) (by simp)
  split
  · split
    · exact (added.trans (counted _)).trans (enterPumpSafe_steady _ on)
    · exact added.trans (counted _)
  · exact added.trans (counted _)

/-- The end of the calibration takes a pump in OFFSET to ALIGN or SAFE (R133, R134). -/
theorem endPumpCalibration_steady {s : State} (h : s.pump.state = .offset) : Steady s (endPumpCalibration s) := by
  unfold endPumpCalibration
  simp only
  split
  · have noted : Steady s (joinNotice (.offsetDone .pump (calibratedOffset s.pump.calib.sum))
        (writeOffset .pumpShunt (calibratedOffset s.pump.calib.sum) s)) :=
      (writeOffset_steady _ _ s).trans (joinNotice_steady _ _)
    split
    · exact noted.trans (enterAlign_steady (by simp [PumpOn, h]))
    · exact noted.trans (enterPumpSafe_steady _ (by simp [h]))
  · exact enterPumpSafe_steady _ (by simp [h])

theorem pumpCalibrationCode_steady (p : Word) (raw : Code) {s : State} (h : s.pump.state = .offset) :
    Steady s (pumpCalibrationCode p raw s) := by
  have sampled : Steady s (s.withPump { s.pump with calib := s.pump.calib.sample raw }) :=
    .still rfl (by simp) (by simp)
  unfold pumpCalibrationCode
  simp only
  split
  · split
    · exact sampled.trans (endPumpCalibration_steady h)
    · exact sampled
  · exact .refl s

theorem pumpShuntCode_steady (p : Word) (t : Tick) (raw : Code) (v : Int) (s : State) :
    Steady s (pumpShuntCode p t raw v s) := by
  unfold pumpShuntCode
  split
  case isTrue h => exact pumpCalibrationCode_steady p raw h
  case isFalse =>
    split
    case isTrue h => exact currentSample_steady raw v (PumpState.running_ne_off (Bool.and_eq_true_iff.1 h).1)
    case isFalse => exact .refl s

theorem breakRun_steady (s : State) : Steady s (breakRun s) := .still (by simp) (by simp) (by simp [breakRun])

theorem examineCode_steady (startStep : Tick) (v : Int) (s : State) : Steady s (examineCode startStep v s) := by
  unfold examineCode
  split
  · extract_lets first _ t
    have counted : Steady s t := .still rfl (by simp [t]) ⟨rfl, rfl, rfl⟩
    split
    · exact counted.trans (acceptCrossing_steady _ t)
    · exact counted
  · exact breakRun_steady s

theorem floatingCode_steady (p : Word) (t : Tick) (v : Int) (s : State) : Steady s (floatingCode p t v s) := by
  unfold floatingCode
  split
  · exact examineCode_steady t v s
  · exact .refl s

theorem floatingLost_steady (p : Word) (r : LostReason) (s : State) : Steady s (floatingLost p r s) := by
  unfold floatingLost
  split
  · exact breakRun_steady s
  · exact .refl s

end Sys2Proof.Machine
end

section
/-! PROOFS. That each operation of the reconstructor, the scheduler and the period starts keeps to `Steady`. -/

namespace Sys2Proof.Machine

/-! ### Parts that neither motor's law reads -/

theorem withInput_steady (s : State) (x : InputConditioner) : Steady s (s.withInput x) :=
  .still rfl (by simp) (by simp)

theorem withSched_steady (s : State) (x : Scheduler) : Steady s (s.withSched x) := .still rfl (by simp) (by simp)

theorem withQueue_steady (s : State) (q : List Request) : Steady s (s.withQueue q) := withSched_steady s _

theorem withRecon_steady (s : State) {x : Reconstructor} (h : x.periodEntry.isSome = s.recon.periodEntry.isSome) :
    Steady s (s.withRecon x) := .still rfl (by simpa using h) (by simp)

/-! ### The reconstructor -/

theorem fileOutcome_steady (o : ConversionOutcome) (s : State) : Steady s (fileOutcome o s) :=
  withRecon_steady s (by simp)

theorem busHighCheck_steady (p : Word) (v : Nat) (s : State) : Steady s (busHighCheck p v s) := by
  unfold busHighCheck
  simp only
  split
  · split
    · exact ((withRecon_steady s (by rfl)).trans (withRecon_steady _ (by rfl))).trans (joinNotice_steady _ _)
    · exact withRecon_steady s (by rfl)
  · exact withRecon_steady s (by rfl)

theorem overTempCheck_steady (first : Motor) (v : Nat) (s : State) : Steady s (overTempCheck first v s) := by
  unfold overTempCheck
  simp only
  split
  · split
    · exact (withRecon_steady s (by rfl)).trans (bothMotors_steady drumOverTemp_steady pumpOverTemp_steady first _)
    · exact withRecon_steady s (by rfl)
  · exact withRecon_steady s (by rfl)

theorem reportPeriod_steady (e : PeriodEntry) (fresh : Bool) (s : State) : Steady s (reportPeriod e fresh s) := by
  unfold reportPeriod
  split
  · exact joinRecord_steady _ s
  · exact .refl s

theorem blindNotice_steady (e : PeriodEntry) (sixteenth : Bool) (s : State) : Steady s (blindNotice e sixteenth s) := by
  unfold blindNotice
  split
  · exact joinNotice_steady _ s
  · exact .refl s

theorem closePeriod_steady (e : PeriodEntry) (s : State) : Steady s (closePeriod e s) := by
  unfold closePeriod
  split
  · exact (withRecon_steady s (by rfl)).trans (reportPeriod_steady _ _ _)
  · exact ((withRecon_steady s (by rfl)).trans (reportPeriod_steady _ _ _)).trans (blindNotice_steady _ _ _)

theorem closeEnding_steady (e : Option PeriodEntry) (s : State) : Steady s (closeEnding e s) := by
  cases e with
  | none => exact .refl s
  | some e => exact closePeriod_steady e s

theorem closeHouse_steady (s : State) : Steady s (closeHouse s) := by
  unfold closeHouse
  split
  · exact .refl s
  · exact (withRecon_steady s (by rfl)).trans (joinRecord_steady _ _)

theorem openHouse_steady (s : State) : Steady s (openHouse s) := by
  unfold openHouse
  split
  · exact withRecon_steady s (by rfl)
  · exact .refl s

/-! ### Delivery and requests -/

theorem countLost_steady (o : ConversionOutcome) (s : State) : Steady s (countLost o s) := by
  unfold countLost
  split
  case h_1 | h_2 => exact withSched_steady s _
  all_goals exact .refl s

theorem deliverDrum_steady (o : ConversionOutcome) (s : State) : Steady s (deliverDrum o s) := by
  unfold deliverDrum
  simp only
  split
  · exact (fileOutcome_steady o s).trans (drumCalibrationCode_steady _ _ _)
  · exact fileOutcome_steady o s

theorem deliverPump_steady (o : ConversionOutcome) (s : State) : Steady s (deliverPump o s) := by
  unfold deliverPump
  split
  · exact pumpShuntCode_steady _ _ _ _ s
  · exact floatingCode_steady _ _ _ s
  · exact floatingLost_steady _ _ s
  · exact .refl s

theorem deliverHouse_steady (first : Motor) (o : ConversionOutcome) (s : State) : Steady s (deliverHouse first o s) := by
  unfold deliverHouse
  simp only
  split
  · exact ((fileOutcome_steady o s).trans (withSched_steady _ _)).trans (busHighCheck_steady _ _ _)
  · exact (fileOutcome_steady o s).trans (overTempCheck_steady _ _ _)
  · exact fileOutcome_steady o s

theorem deliver_steady (first : Motor) (o : ConversionOutcome) (s : State) : Steady s (deliver first o s) := by
  unfold deliver
  simp only
  split
  · exact (countLost_steady o s).trans (deliverDrum_steady o _)
  · exact (countLost_steady o s).trans (deliverPump_steady o _)
  · exact (countLost_steady o s).trans (deliverHouse_steady first o _)

theorem deliverLost_steady (r : Request) (reason : LostReason) (s : State) : Steady s (deliverLost r reason s) :=
  deliver_steady _ _ s

theorem joinRequest_steady (r : Request) (s : State) : Steady s (joinRequest r s) := by
  unfold joinRequest
  split
  · exact ((withQueue_steady s _).trans (deliverLost_steady _ _ _)).trans (withQueue_steady _ _)
  · split
    · exact withQueue_steady s _
    · exact deliverLost_steady _ _ s

theorem makeRequest_steady (r : Request) (s : State) : Steady s (makeRequest r s) := by
  unfold makeRequest
  split
  · exact joinRequest_steady r s
  · exact .refl s

theorem unassign_steady (m : Measurand) (s : State) : Steady s (unassign m s) := by
  have lost : ∀ (l : List Request) (t : State), Steady t (l.foldl (fun t r => deliverLost r .unassigned t) t) := by
    intro l
    induction l with
    | nil => exact .refl
    | cons r l ih => exact fun t => (deliverLost_steady r .unassigned t).trans (ih _)
  exact (withQueue_steady s _).trans (lost _ _)

theorem startConversion_steady (r : Request) (s : State) : Steady s (startConversion r s) := withSched_steady s _

theorem finishConversion_steady (c : Conversion) (raw : Code) (first : Motor) (s : State) :
    Steady s (finishConversion c raw first s) := (withSched_steady s _).trans (deliver_steady _ _ _)

theorem expire_steady (r : Request) (s : State) : Steady s (expire r s) :=
  (withQueue_steady s _).trans (deliverLost_steady _ _ _)

theorem houseRequests_steady (s : State) : Steady s (houseRequests s) := by
  unfold houseRequests
  simp only
  split
  · exact ((makeRequest_steady _ s).trans (makeRequest_steady _ _)).trans (makeRequest_steady _ _)
  · exact makeRequest_steady _ s

theorem planRequest_steady (w : Nat) (p : Option RequestSpan) (s : State) : Steady s (planRequest w p s) := by
  cases p with
  | none => exact .refl s
  | some p => exact makeRequest_steady _ s

theorem pumpRequests_steady (s : State) : Steady s (pumpRequests s) := by
  unfold pumpRequests
  simp only
  split
  · split
    · exact (makeRequest_steady _ s).trans (makeRequest_steady _ _)
    · exact makeRequest_steady _ s
  · exact .refl s

/-! ### The permit (R17, R18) -/

theorem permitChanged_steady (before : State) (first : Motor) (s : State) : Steady s (permitChanged before first s) := by
  have forced : Steady s
      (applyForcing .pump (forcing .pump before) (applyForcing .drum (forcing .drum before) s)) :=
    (applyForcing_steady _ _ s).trans (applyForcing_steady _ _ _)
  unfold permitChanged
  simp only
  split
  · exact forced
  · exact forced.trans (bothMotors_steady drumPermitLost_steady pumpPermitLost_steady first _)

theorem takePermit_steady (sample : Bool) (first : Motor) (s : State) : Steady s (takePermit sample first s) := by
  unfold takePermit
  simp only
  split
  · exact withInput_steady s _
  · exact (withInput_steady s _).trans (permitChanged_steady s first _)

/-! ### No period entry is opened before the plan application (R71, R73) -/

theorem enterDrumSafe_noEntry (c : Cause) {s : State} (h : s.recon.periodEntry = none) :
    (enterDrumSafe c s).recon.periodEntry = none := by
  simp [endingEntry, h]

theorem drumPermitLost_noEntry {s : State} (h : s.recon.periodEntry = none) :
    (drumPermitLost s).recon.periodEntry = none := by
  unfold drumPermitLost
  split
  case h_1 =>
    split
    · exact h
    · exact enterDrumSafe_noEntry _ h
  case h_2 => simpa using h
  all_goals exact h

theorem drumOvercurrent_noEntry {s : State} (h : s.recon.periodEntry = none) :
    (drumOvercurrent s).recon.periodEntry = none := by
  unfold drumOvercurrent
  split
  · exact enterDrumSafe_noEntry _ h
  · exact h

theorem takePermit_noEntry (sample : Bool) (first : Motor) {s : State} (h : s.recon.periodEntry = none) :
    (takePermit sample first s).recon.periodEntry = none := by
  unfold takePermit permitChanged
  simp only
  split
  · simpa using h
  · split
    · simpa using h
    · cases first with
      | drum => simpa [bothMotors] using drumPermitLost_noEntry (by simpa using h)
      | pump => exact drumPermitLost_noEntry (by simpa using h)

theorem closeEnding_noEntry (e : Option PeriodEntry) {s : State} (h : s.recon.periodEntry = none) :
    (closeEnding e s).recon.periodEntry = none := by
  unfold closeEnding closePeriod
  split
  · split
    · simpa [closeFresh] using h
    · simpa [closeHeld] using h
  · exact h

theorem closeHouse_noEntry {s : State} (h : s.recon.periodEntry = none) : (closeHouse s).recon.periodEntry = none := by
  unfold closeHouse
  split
  · exact h
  · simpa using h

theorem takeIf_noEntry {f : State → State}
    (hf : ∀ s : State, s.recon.periodEntry = none → (f s).recon.periodEntry = none) (b : Bool) {s : State}
    (h : s.recon.periodEntry = none) : (takeIf b f s).recon.periodEntry = none := by
  cases b with
  | true => exact hf s h
  | false => exact h

/-! ### The drum period start -/

theorem beginDrumPeriod_steady (s : State) : Steady s (beginDrumPeriod s) where
  link := rfl
  pump := .still (by simp)
  drum :=
    { setup := rfl
      misses := rfl
      on := id
      off := id
      kept := fun kept => ⟨kept.cause, kept.stop, kept.slot, kept.prepared, kept.inForce, fun held => by cases held⟩ }

/-- A pending stop is taken when the entry of the period ending has been taken out (R94). -/
theorem takeStop_steady {s : State} (h : s.recon.periodEntry = none) : Steady s (takeStop s) := by
  unfold takeStop
  split
  case h_1 k run _ =>
    have target : k.target = .off ∨ k.target = .brake := by cases k <;> simp [StopKind.target]
    refine changeDrum_steady ?_ ?_ ?_ ?_ fun _ => h <;> rcases target with target | target <;> simp [target, run]
  case h_2 => exact .refl s

theorem enterRun_steady (s : State) : Steady s (enterRun s) := by
  unfold enterRun
  split
  case isTrue h =>
    have ready : s.drum.state = .ready := h.1
    split
    · refine (withRecon_steady s (by rfl)).trans (changeDrum_steady ?_ ?_ ?_ ?_ ?_) <;> simp [ready, DrumOn]
    · exact enterDrumSafe_steady _ (by simp [ready])
  case isFalse => exact .refl s

theorem commandPlan_steady (p : Plan) (n : Nat) (s : State) : Steady s (commandPlan p n s) :=
  ((drive_steady _ _ _ s).trans (drive_steady _ _ _ _)).trans (drive_steady _ _ _ _)

/-- The prepared plan is given up, and a plan comes into force in RUN alone (R40). -/
theorem withPlans_steady {s : State} {inForce : Option Plan}
    (h : s.drum.state = .run ∨ inForce = s.planner.inForce) :
    Steady s (s.withPlanner { s.planner with inForce := inForce, prepared := none }) where
  link := rfl
  pump := .still (by simp)
  drum :=
    { setup := rfl
      misses := rfl
      on := id
      off := id
      kept := fun kept =>
        { kept with
          prepared := fun held => by cases held
          inForce := fun held => h.elim id fun same => kept.inForce (same ▸ held) } }

/-- In RUN a period entry may be opened (R71). -/
theorem openPeriodEntry_steady (p : Plan) {s : State} (run : s.drum.state = .run) : Steady s (openPeriodEntry p s) where
  link := rfl
  pump := .still (by simp)
  drum :=
    { setup := rfl
      misses := rfl
      on := id
      off := id
      kept := fun kept => ⟨kept.cause, kept.stop, kept.slot, kept.prepared, kept.inForce, fun _ => .inl run⟩ }

theorem applyPlan_steady (s : State) : Steady s (applyPlan s) := by
  unfold applyPlan
  split
  case isTrue run =>
    have applied : Steady s (s.withPlanner { s.planner with inForce := s.planner.prepared, prepared := none }) :=
      withPlans_steady (.inl run)
    simp only
    split
    · exact applied
    · refine ((applied.trans (commandPlan_steady _ _ _)).trans (openPeriodEntry_steady _ ?_)).trans
        ((planRequest_steady _ _ _).trans (planRequest_steady _ _ _))
      simpa using run
  case isFalse => exact withPlans_steady (.inr rfl)

theorem calibrateDrum_steady (s : State) : Steady s (calibrateDrum s) := by
  unfold calibrateDrum
  split
  case isTrue h =>
    split
    · exact enterDrumSafe_steady _ (by simp [h])
    · have begun : ∀ c, Steady s (s.withDrum { s.drum with calib := c }) := fun _ => .still rfl (by simp) (by simp)
      exact (begun _).trans (makeRequest_steady _ _)
  case isFalse => exact .refl s

theorem drumPeriodStart_steady (permit : Bool) (o : PeriodOrder) (s0 : State) :
    Steady s0 (drumPeriodStart permit o s0) := by
  have turn : ∀ b s, Steady s (takeIf b (takePermit permit o.first) s) := takeIf_steady (takePermit_steady permit o.first)
  have trip : ∀ b s, Steady s (takeIf b drumOvercurrent s) := takeIf_steady drumOvercurrent_steady
  have house : ∀ b s, Steady s (takeIf b houseRequests s) := takeIf_steady houseRequests_steady
  unfold drumPeriodStart
  extract_lets e s1 s2 s3 trips s4 s5 s6 s7 s8 s9 s10 s11 s12
  have n1 : s1.recon.periodEntry = none := rfl
  have turnEntry := takeIf_noEntry fun _ h => takePermit_noEntry permit o.first h
  have n2 : s2.recon.periodEntry = none := turnEntry _ n1
  have n3 : s3.recon.periodEntry = none := takeIf_noEntry (fun t h => by simpa using h) _ n2
  have n4 : s4.recon.periodEntry = none := closeHouse_noEntry (closeEnding_noEntry e n3)
  have n6 : s6.recon.periodEntry = none := takeIf_noEntry (fun _ => drumOvercurrent_noEntry) _ (turnEntry _ n4)
  have h3 : Steady s2 s3 := by
    simp only [s3, takeIf]
    split
    · exact takeStop_steady n2
    · exact .refl s2
  have h2 : Steady s0 s2 := (beginDrumPeriod_steady s0).trans (turn _ s1)
  have h4 : Steady s3 s4 := (closeEnding_steady e s3).trans (closeHouse_steady _)
  have h6 : Steady s4 s6 := (turn _ s4).trans (trip _ s5)
  have h7 : Steady s6 s7 := (takeStop_steady n6).trans (enterRun_steady _)
  have h9 : Steady s7 s9 := ((openHouse_steady s7).trans (house _ _)).trans (turn _ s8)
  have h10 : Steady s9 s10 := ((applyPlan_steady s9).trans (house _ _)).trans (calibrateDrum_steady _)
  have h12 : Steady s10 s12 := (turn _ s10).trans (trip _ s11)
  have h13 : Steady s12 _ := turn (decide (o.permitTurn = .afterTrip)) s12
  exact (((h2.trans h3).trans (h4.trans h6)).trans (h7.trans h9)).trans ((h10.trans h12).trans h13)

/-! ### The pump period start -/

theorem beginPumpPeriod_steady (s : State) : Steady s (beginPumpPeriod s) := .still rfl (by simp) (by simp)

theorem applyPendingDuty_steady (s : State) : Steady s (applyPendingDuty s) := by
  unfold applyPendingDuty
  split
  · split
    · exact .still rfl (by simp) (by simp)
    · exact .refl s
  · exact .refl s

theorem countAlign_steady (s : State) : Steady s (countAlign s) := .still rfl (by simp) ⟨rfl, rfl, rfl⟩

theorem fixOnTime_steady (s : State) : Steady s (fixOnTime s) := .still rfl (by simp) ⟨rfl, rfl, rfl⟩

theorem markPeriod_steady (s : State) : Steady s (markPeriod s) := by
  have marked : ∀ marks blanking, Steady s (s.withComm { s.comm with marks := marks, blanking := blanking }) :=
    fun _ _ => .still rfl (by simp) (by simp)
  unfold markPeriod
  simp only
  split
  · split
    · exact (marked _ _).trans (breakRun_steady _)
    · exact marked _ _
  · exact marked _ _

theorem calibratePump_steady (b : Bool) {s : State} (h : s.pump.state = .offset) : Steady s (calibratePump b s) := by
  unfold calibratePump
  split
  · refine (takeIf_steady (fun _ => makeRequest_steady _ _) b s).trans (enterPumpSafe_steady _ ?_)
    cases b <;> simp [h]
  · have begun : ∀ c, Steady s (s.withPump { s.pump with calib := c }) := fun _ => .still rfl (by simp) (by simp)
    exact (begun _).trans (makeRequest_steady _ _)

theorem commandStep_steady (s : State) : Steady s (commandStep s) := .still (by simp) (by simp) (by simp)

theorem openPumpPeriod_steady (b : Bool) (s : State) : Steady s (openPumpPeriod b s) := by
  unfold openPumpPeriod
  extract_lets t
  have opened : Steady s t :=
    ((applyPendingDuty_steady s).trans (countAlign_steady _)).trans ((fixOnTime_steady _).trans (markPeriod_steady _))
  split
  · exact opened.trans ((commandStep_steady t).trans (pumpRequests_steady _))
  · split
    case isTrue h => exact opened.trans (calibratePump_steady b h)
    case isFalse => exact opened

end Sys2Proof.Machine
end

section
/-! PROOFS. The frames and the events of the part, the induction over commands (`EventInvariant`), and the two laws that
every step keeps: the limits of the miss counters and the agreement of the drum's parts. -/

namespace Sys2Proof.Machine

/-! ### The Link Port and the clock -/

theorem withLink_steady (s : State) {l : LinkPort} (h : l.state = s.link.state) : Steady s (s.withLink l) :=
  .still h (by simp) (by simp)

theorem withRq_steady (s : State) (q : RecordQueue) : Steady s (s.withRq q) := .still rfl (by simp) (by simp)

theorem withPending_steady (s : State) (l : List Instr) : Steady s (s.withPending l) := .still rfl (by simp) (by simp)

theorem withFreeCount_steady (s : State) (n : Nat) : Steady s (s.withFreeCount n) := .still rfl (by simp) (by simp)

theorem withPumpCar_steady (s : State) (x : PumpCarrier) : Steady s (s.withPumpCar x) := .still rfl (by simp) (by simp)

/-- A Drum Carrier that does not pass by a period start still to be taken. -/
theorem Steady.of_drumCar {s t : State} (due : drumStartDue s = true → drumStartDue t = true)
    (link : t.link = s.link) (setup : t.setup = s.setup) (planner : t.planner = s.planner) (drum : t.drum = s.drum)
    (recon : t.recon = s.recon) (pump : t.pump = s.pump) (comm : t.comm = s.comm) : Steady s t where
  link := by rw [link]
  pump := .still (by simp [pump, comm])
  drum :=
    { setup := setup
      misses := by rw [planner]
      on := by simp [DrumOn, drum]
      off := by simp [drum]
      kept := fun kept =>
        { cause := by simpa only [drum] using kept.cause
          stop := by simpa only [drum] using kept.stop
          slot := by simpa only [planner, drum] using kept.slot
          prepared := by simpa only [planner, drum] using kept.prepared
          inForce := by simpa only [planner, drum] using kept.inForce
          entry := fun held => by
            rw [recon] at held
            rw [drum]
            exact (kept.entry held).imp_right due } }

theorem takeLinkEdge_steady (e : LinkEdge) (fr : FrameInProgress) (s : State) : Steady s (takeLinkEdge e fr s) := by
  obtain ⟨count, shift, ldo, link⟩ := takeLinkEdge_link e fr s
  exact .still (by rw [link]) (by simp) (by simp)

theorem tick_steady (s : State) : Steady s (tick s) := by
  unfold tick
  split
  · refine .of_drumCar (fun due => ?_) rfl rfl rfl rfl rfl rfl rfl
    change (s.time.running && decide (2 * s.drumCar.half ≤ s.drumCar.pos + 1)) = true
    simp only [drumStartDue, Bool.and_eq_true, decide_eq_true_eq] at due ⊢
    exact ⟨due.1, due.2.trans (Nat.le_succ _)⟩
  · exact .refl s

theorem passIdle_steady (s : State) : Steady s (passIdle s) := by
  unfold passIdle
  split
  · exact tick_steady s
  · split
    · exact (withFreeCount_steady s _).trans (takeLinkEdge_steady _ _ _)
    · exact (withFreeCount_steady s _).trans (tick_steady _)

theorem beginFrame_steady (s : State) : Steady s (beginFrame s) := .still rfl (by simp [beginFrame]) (by simp [beginFrame])

/-! ### What a frame keeps -/

section
variable {P : State → Prop} (steady : ∀ {s t}, Steady s t → P s → P t)
include steady

/-- A law that steady events keep is kept by a completion when the completed frame keeps it (R146, R156). -/
theorem atCompletion_keeps {f : FrameInProgress → State → State} (hf : ∀ fr s, P s → P (f fr s)) {s : State} (h : P s) :
    P (atCompletion f s) := by
  unfold atCompletion
  split
  · split
    · exact hf _ s h
    · split
      · exact steady (withLink_steady s (by rfl)) h
      · split
        · exact hf _ _ (steady (beginFrame_steady s) h)
        · exact h
  · exact steady (withLink_steady s (by rfl)) h

theorem sentWhole_keeps (fr : FrameInProgress) {s : State} (h : P s) : P (sentWhole fr s) :=
  steady ((withRq_steady s _).trans (withLink_steady _ (by rfl))) h

theorem decideFrame_keeps {b : Body} (hb : ∀ s, P s → P (b s).1) {s : State} (h : P s) : P (decideFrame b s) :=
  atCompletion_keeps steady
    (fun fr t ht =>
      steady (setResult_steady _ _) (hb _ (steady (withLink_steady _ (by rfl)) (sentWhole_keeps steady fr ht)))) h

/-- A frame that needs READY (R151). -/
theorem readyFrame_keeps {b : Body} (hb : ∀ s, P s → s.link.state = .ready → P (b s).1) {s : State} (h : P s) :
    P (decideFrame (whenReady b) s) :=
  decideFrame_keeps steady
    (fun t ht => by
      unfold whenReady
      split
      case isTrue ready => exact hb t ht ready
      case isFalse => exact ht) h

end

/-- A steady body leaves the state of a refused or accepted frame steady. -/
theorem whenReady_steady {b : Body} (hb : ∀ s, Steady s (b s).1) (s : State) : Steady s (whenReady b s).1 := by
  unfold whenReady
  split
  · exact hb s
  · exact .refl s

theorem shortFrame_steady (bits : Nat) (s : State) : Steady s (shortFrame bits s) :=
  atCompletion_keeps (P := Steady s) (fun h k => k.trans h)
    (fun _ t ht => by
      have ended : Steady t (endBreakRun (sentShort bits t)) :=
        ((withRq_steady t _).trans (withLink_steady _ (by rfl))).trans (withLink_steady _ (by rfl))
      exact ((ht.trans ended).trans (withLink_steady _ (by rfl))).trans
        ((withFlags_steady _ _).trans (setResult_steady _ _)))
    (.refl s)

theorem linkBreak_steady (first : Motor) (s : State) : Steady s (linkBreak first s) :=
  ((withFlags_steady _ s).trans (joinNotice_steady _ _)).trans
    (bothMotors_steady drumLinkBreak_steady pumpLinkBreak_steady first _)

theorem breakFrame_steady (first : Motor) (s : State) : Steady s (breakFrame first s) :=
  atCompletion_keeps (P := Steady s) (fun h k => k.trans h)
    (fun fr t ht => by
      have sent : Steady s (sentWhole fr t) := sentWhole_keeps (P := Steady s) (fun h k => k.trans h) fr ht
      have counted := sent.trans (withLink_steady (sentWhole fr t)
        (l := { (sentWhole fr t).link with breakRun := runUp 2 (sentWhole fr t).link.breakRun }) (by rfl))
      simp only
      split
      · exact (counted.trans (linkBreak_steady first _)).trans (setResult_steady _ _)
      · exact counted.trans (setResult_steady _ _))
    (.refl s)

theorem checkErrorBody_steady (s : State) : Steady s (checkErrorBody s).1 := by
  have counted : ∀ n, Steady s (setCheckErr (s.withLink { s.link with checkErrors := n })) := fun _ =>
    (withLink_steady s (by rfl)).trans (withFlags_steady _ _)
  unfold checkErrorBody
  simp only
  split
  · exact ((counted _).trans (withFlags_steady _ _)).trans (joinNotice_steady _ _)
  · exact counted _

/-! ### Steady bodies -/

/-- In READY and RUN the slot may be full (R20, R23). -/
theorem fillSlot_steady (d : PerPhase Word) {s : State} (h : s.drum.state = .ready ∨ s.drum.state = .run) :
    Steady s (fillSlot d s) := by
  rw [fillSlot_eq]
  exact
    { link := rfl
      pump := .still ⟨rfl, rfl, rfl⟩
      drum :=
        { setup := rfl
          misses := rfl
          on := id
          off := id
          kept := fun kept => ⟨kept.cause, kept.stop, fun _ => h, kept.prepared, kept.inForce, kept.entry⟩ } }

theorem dutyBody_steady (d : PerPhase Word) (s : State) : Steady s (dutyBody d s).1 := by
  unfold dutyBody
  split <;> rename_i h
  case h_1 => exact fillSlot_steady d (.inl h)
  case h_2 => exact fillSlot_steady d (.inr h)
  all_goals exact .refl s

theorem pumpBody_steady (direction : BitVec 2) (duty : Word) (s : State) : Steady s (pumpBody direction duty s).1 := by
  have pended : ∀ t, Steady t (setPendingDuty duty t) := fun _ => .still rfl (by simp [setPendingDuty]) ⟨rfl, rfl, rfl⟩
  unfold pumpBody
  split
  · unfold pumpDutyBody
    split
    case h_1 =>
      have turned : ∀ d, Steady s (s.withComm { s.comm with direction := d }) := fun _ => .still rfl (by simp) (by simp)
      exact (turned _).trans (pended _)
    case h_2 => exact .refl s
    all_goals
      split
      · exact pended s
      · exact .refl s
  · exact .refl s

theorem rateBody_steady (h hp : Word) (s : State) : Steady s (rateBody h hp s).1 := by
  unfold rateBody
  extract_lets _ t _ u
  have drum : Steady s t := .of_drumCar id rfl rfl rfl rfl rfl rfl rfl
  exact drum.trans (withPumpCar_steady t _)

theorem tableInputBody_steady (row : BitVec 4) (source : BitVec 2) (input : BitVec 4) (offset trip : Word) (s : State) :
    Steady s (tableInputBody row source input offset trip s).1 := by
  unfold tableInputBody
  split
  · split
    · simp only [writeInputRow]
      split
      · exact withSched_steady s _
      · exact (withSched_steady s _).trans (unassign_steady _ _)
    · exact .refl s
  · exact .refl s

theorem tableCommutationBody_steady (row : BitVec 4) (high low floating polarity : BitVec 2) (s : State) :
    Steady s (tableCommutationBody row high low floating polarity s).1 := by
  have written : ∀ x, Steady s (s.withComm { s.comm with table := x }) := fun _ => .still rfl (by simp) (by simp)
  unfold tableCommutationBody
  split
  · split
    · split
      · exact written _
      · exact .refl s
    · exact .refl s
  · exact .refl s

theorem tableRampBody_steady (row : BitVec 4) (interval : BitVec 24) (repeats : BitVec 8) (duty : Word) (s : State) :
    Steady s (tableRampBody row interval repeats duty s).1 := by
  have written : ∀ x, Steady s (s.withPump { s.pump with ramp := x }) := fun _ => .still rfl (by simp) (by simp)
  unfold tableRampBody
  split
  · split
    · exact written _
    · exact .refl s
  · exact .refl s

theorem tableRampLengthBody_steady (length : BitVec 5) (s : State) : Steady s (tableRampLengthBody length s).1 := by
  unfold tableRampLengthBody
  split
  · exact .still rfl (by simp) (by simp)
  · exact .refl s

theorem answerQuery_steady (page : State → StatusPage) {clearing : State → State} (h : ∀ s, Steady s (clearing s))
    (s : State) : Steady s (answerQuery (page s) clearing s).1 := (h s).trans (joinRecord_steady _ _)

theorem queryTableBody_steady (id row : BitVec 4) (s : State) : Steady s (queryTableBody id row s).1 := by
  unfold queryTableBody
  split
  · exact joinRecord_steady _ s
  · exact .refl s

theorem clearLinkCounters_steady (s : State) : Steady s (clearLinkCounters s) :=
  (withLink_steady s (by rfl)).trans (withRq_steady _ _)

theorem emptyDrumSnapshot_steady (s : State) : Steady s (emptyDrumSnapshot s) :=
  .still rfl (by simp [emptyDrumSnapshot]) ⟨rfl, rfl, rfl⟩

theorem emptyPumpSnapshot_steady (s : State) : Steady s (emptyPumpSnapshot s) :=
  .still rfl (by simp [emptyPumpSnapshot]) ⟨rfl, rfl, rfl⟩

theorem changeDrum_off_steady {s : State} (safe : s.drum.state ≠ .safe) (run : s.drum.state ≠ .run) :
    Steady s (changeDrum .off s) :=
  changeDrum_steady (by simp) safe (by simp) (fun _ => rfl) fun h => absurd h run

/-- In RUN a stop becomes pending (R94). -/
theorem setStopPending_steady (k : StopKind) {s : State} (run : s.drum.state = .run) : Steady s (setStopPending k s) where
  link := rfl
  pump := .still ⟨rfl, rfl, rfl⟩
  drum :=
    { setup := rfl
      misses := rfl
      on := id
      off := id
      kept := fun kept => ⟨kept.cause, fun _ => run, kept.slot, kept.prepared, kept.inForce, kept.entry⟩ }

theorem stopCoastDrumBody_steady (s : State) : Steady s (stopCoastDrumBody s).1 := by
  unfold stopCoastDrumBody
  split <;> rename_i h
  case h_1 | h_6 => exact .refl s
  case h_4 => exact setStopPending_steady _ h
  all_goals exact changeDrum_off_steady (by simp [h]) (by simp [h])

theorem stopBrakeDrumBody_steady (s : State) : Steady s (stopBrakeDrumBody s).1 := by
  unfold stopBrakeDrumBody
  split <;> rename_i h
  case h_1 | h_5 | h_6 => exact .refl s
  case h_4 => exact setStopPending_steady _ h
  all_goals exact changeDrum_off_steady (by simp [h]) (by simp [h])

theorem stopCoastPumpBody_steady (s : State) : Steady s (stopCoastPumpBody s).1 := by
  unfold stopCoastPumpBody
  split
  case h_1 | h_6 => exact .refl s
  all_goals exact pumpOff_steady s

/-- A CLEAR takes a drum in SAFE to OFF with its cause record emptied (R98). -/
theorem clearDrum_steady {s : State} (safe : s.drum.state = .safe) :
    Steady s (changeDrum .off (s.withDrum { s.drum with cause := none })) where
  link := by simp
  pump := .still (by simp)
  drum :=
    { setup := by simp
      misses := by simp
      on := by simp [DrumOn]
      off := by simp
      kept := fun kept => changeDrum_keeps (by simp) rfl fun held => by
        rcases kept.entry held with run | due
        · simp [safe] at run
        · exact .inr due }

theorem clearDrumBody_steady (s : State) : Steady s (clearDrumBody s).1 := by
  unfold clearDrumBody
  split
  · exact .refl s
  case isFalse h =>
    split
    · exact .refl s
    · split
      · exact .refl s
      · exact clearDrum_steady (not_not.1 h)

theorem clearPumpBody_steady (s : State) : Steady s (clearPumpBody s).1 := by
  have cleared : Steady s (s.withPump { s.pump with cause := none }) := .still rfl (by simp) (by simp)
  unfold clearPumpBody
  split
  · exact .refl s
  · split
    · exact .refl s
    · split
      · exact .refl s
      · exact cleared.trans (pumpOff_steady _)

theorem setDry_steady (m : Motor) (b : Bool) (s : State) : Steady s (setDry m b s) := by
  cases m with
  | drum =>
    have written : Steady s (s.withDrum { s.drum with dry := b }) := .still rfl (by simp) (by simp)
    exact written.trans (applyForcing_steady .drum _ _)
  | pump =>
    have written : Steady s (s.withPump { s.pump with dry := b }) := .still rfl (by simp) (by simp)
    exact written.trans (applyForcing_steady .pump _ _)

theorem dryBody_steady (m : Motor) (b : Bool) (s : State) : Steady s (dryBody m b s).1 := by
  unfold dryBody
  split
  · exact setDry_steady m b s
  · exact .refl s

theorem setReport_steady (m : Motor) (b : Bool) (s : State) : Steady s (setReport m b s) := by
  cases m <;> exact .still rfl (by simp [setReport]) ⟨rfl, rfl, rfl⟩

/-! ### Steady events -/

theorem moveFaultLine_steady (m : Motor) (active : Bool) (s : State) : Steady s (moveFaultLine m active s) := by
  cases m <;> exact (withInput_steady s _).trans (applyForcing_steady _ _ _)

theorem gateFault_steady (m : Motor) (s : State) : Steady s (gateFault m s) := by
  cases m with
  | drum => exact drumGateFault_steady s
  | pump => exact pumpGateFault_steady s

theorem latchHalf_steady (s : State) : Steady s (latchHalf s) := .of_drumCar id rfl rfl rfl rfl rfl rfl rfl

theorem alignAtPeak_steady (s : State) : Steady s (alignAtPeak s) := by
  unfold alignAtPeak
  split
  case isTrue h => exact enterRamp_steady (by simp [PumpOn, h.1, PumpState.running])
  case isFalse => exact .refl s

theorem frameBegin_steady (s : State) :
    Steady s
      (if s.link.selected then s
       else if s.link.resetN then beginFrame s
       else s.withLink { s.link with selected := true }) := by
  split
  · exact .refl s
  · split
    · exact beginFrame_steady s
    · exact withLink_steady s (by rfl)

theorem joinResetNotice_steady (s : State) : Steady s (joinResetNotice s) := joinNotice_steady _ s

/-! ### The induction over commands -/

theorem timeoutDue_closed {s : State} {d : Tick} (h : timeoutDue s = some d) : s.pump.state = .closed := by
  unfold timeoutDue at h
  split at h
  case h_1 closed _ _ => exact closed
  case h_2 => cases h

/-- A law that every command keeps: steady events keep it, and so do the few events that are not steady, each in the
states it acts in. -/
structure EventInvariant (P : State → Prop) : Prop where
  steady : ∀ {s t}, Steady s t → P s → P t
  reset : ∀ cause s, P (resetPart cause s)
  setup : ∀ f permit s, P s → (s.link.state = .ready → bothOff s = true) → P (acceptSetup f permit s)
  startDrum : ∀ s, P s → s.link.state = .ready → s.drum.state = .off → P (acceptStartDrum s)
  startPump : ∀ s, P s → s.link.state = .ready → s.pump.state = .off → P (acceptStartPump s)
  profile : ∀ f i s, P s → s.link.state = .ready → s.pump.state = .off →
    P (s.withPump { s.pump with profile := clampProfile f i })
  entry : ∀ d s, P s → s.drum.state = .ready ∨ s.drum.state = .run → P (takeEntry d s)
  miss : ∀ s, P s → s.drum.state = .run → P (countMiss s)
  timeout : ∀ d s, P s → s.pump.state = .closed → P (takeTimeout d s)

section
variable {P : State → Prop} (inv : EventInvariant P)
include inv

theorem EventInvariant.setupBody (f : SetupFields) (permit : Bool) (s : State) (h : P s) :
    P (Machine.setupBody f permit s).1 := by
  unfold Machine.setupBody
  split
  case isTrue => exact h
  case isFalse busy => exact inv.setup f permit s h fun ready => by simpa [ready] using busy

theorem EventInvariant.startDrumBody (s : State) (h : P s) (ready : s.link.state = .ready) :
    P (Machine.startDrumBody s).1 := by
  unfold Machine.startDrumBody
  split
  case isTrue => exact h
  case isFalse off =>
    have started := inv.startDrum s h ready (not_not.1 off)
    repeat' split
    case isFalse.isFalse.isFalse => exact started
    all_goals exact h

theorem EventInvariant.startPumpBody (s : State) (h : P s) (ready : s.link.state = .ready) :
    P (Machine.startPumpBody s).1 := by
  unfold Machine.startPumpBody
  split
  case isTrue => exact h
  case isFalse off =>
    have started := inv.startPump s h ready (not_not.1 off)
    repeat' split
    case isFalse.isFalse.isFalse.isFalse => exact started
    all_goals exact h

theorem EventInvariant.tableProfileBody (f : ProfileFields) (s : State) (h : P s) (ready : s.link.state = .ready) :
    P (Machine.tableProfileBody f s).1 := by
  unfold Machine.tableProfileBody
  split
  case isTrue off =>
    split
    · exact inv.profile f _ s h ready (of_decide_eq_true off)
    · exact h
  case isFalse => exact h

theorem EventInvariant.planAtPoint (s : State) (h : P s) : P (Machine.planAtPoint s) := by
  unfold Machine.planAtPoint
  split
  case h_1 ready _ => exact inv.entry _ s h (.inl ready)
  case h_2 run _ _ => exact inv.entry _ s h (.inr run)
  case h_3 run _ _ => exact inv.miss s h run
  case h_4 => exact h

/-- Every command keeps an event invariant. -/
theorem EventInvariant.exec {c : Instr} {s t : State} (h : P s) (he : Machine.exec c s = .next t) : P t := by
  have frame : ∀ {b : Body}, (∀ s, Steady s (b s).1) → P (decideFrame b s) := fun hb =>
    decideFrame_keeps inv.steady (fun s => inv.steady (hb s)) h
  have ready : ∀ {b : Body}, (∀ s, Steady s (b s).1) → P (decideFrame (whenReady b) s) := fun hb =>
    frame (whenReady_steady hb)
  have refused : ∀ r, P (decideFrame (refuse r) s) := fun _ => frame .refl
  have refusedReady : ∀ r, P (decideFrame (whenReady (refuse r)) s) := fun _ => ready .refl
  have event : ∀ {b : Bool} {u : State}, (b = true → P u) → P (if b then u else s) := by
    intro b u hu
    cases b with
    | true => exact hu rfl
    | false => exact h
  have goes : ∃ u, Machine.exec c s = .next u ∧ P u := by
    cases c with
    | powerReset =>
      refine ⟨_, rfl, ?_⟩
      have fresh := inv.reset .power s
      split
      · exact inv.steady (joinResetNotice_steady _) fresh
      · exact fresh
    | pinReset => exact ⟨_, rfl, inv.steady (withLink_steady _ (by rfl)) (inv.reset .pin s)⟩
    | pinResetRelease =>
      refine ⟨_, rfl, ?_⟩
      split
      · exact h
      · exact inv.steady ((withLink_steady s (by rfl)).trans (joinResetNotice_steady _)) h
    | frameBegin => exact ⟨_, rfl, inv.steady (frameBegin_steady s) h⟩
    | shortFrame bits => exact ⟨_, rfl, inv.steady (shortFrame_steady bits s) h⟩
    | breakFrame first => exact ⟨_, rfl, inv.steady (breakFrame_steady first s) h⟩
    | checkError => exact ⟨_, rfl, frame checkErrorBody_steady⟩
    | unknownKind => exact ⟨_, rfl, refused _⟩
    | fill => exact ⟨_, rfl, frame .refl⟩
    | setup f permit => exact ⟨_, rfl, decideFrame_keeps inv.steady (inv.setupBody f permit) h⟩
    | duty d => exact ⟨_, rfl, ready (dutyBody_steady d)⟩
    | pump direction duty => exact ⟨_, rfl, ready (pumpBody_steady direction duty)⟩
    | rate half pumpHalf => exact ⟨_, rfl, ready (rateBody_steady half pumpHalf)⟩
    | tableInput row source input offset trip =>
      exact ⟨_, rfl, ready (tableInputBody_steady row source input offset trip)⟩
    | tableCommutation row high low floating polarity =>
      exact ⟨_, rfl, ready (tableCommutationBody_steady row high low floating polarity)⟩
    | tableProfile f => exact ⟨_, rfl, readyFrame_keeps inv.steady (inv.tableProfileBody f) h⟩
    | tableRamp row interval repeats duty => exact ⟨_, rfl, ready (tableRampBody_steady row interval repeats duty)⟩
    | tableRampLength length => exact ⟨_, rfl, ready (tableRampLengthBody_steady length)⟩
    | queryLink clear => exact ⟨_, rfl, frame (answerQuery_steady _ (takeIf_steady clearLinkCounters_steady clear))⟩
    | queryDrum clear =>
      exact ⟨_, rfl, frame (answerQuery_steady _ (takeIf_steady (fun s => withSched_steady s _) clear))⟩
    | queryDrumSnap => exact ⟨_, rfl, frame (answerQuery_steady _ emptyDrumSnapshot_steady)⟩
    | queryPump clear =>
      exact ⟨_, rfl, frame (answerQuery_steady _ (takeIf_steady (fun s => withSched_steady s _) clear))⟩
    | queryPumpRingA => exact ⟨_, rfl, frame (answerQuery_steady _ .refl)⟩
    | queryPumpRingB => exact ⟨_, rfl, frame (answerQuery_steady _ .refl)⟩
    | queryPumpSnap => exact ⟨_, rfl, frame (answerQuery_steady _ emptyPumpSnapshot_steady)⟩
    | queryTable clear id row => exact ⟨_, rfl, frame (queryTableBody_steady id row)⟩
    | startDrum => exact ⟨_, rfl, readyFrame_keeps inv.steady inv.startDrumBody h⟩
    | startPump => exact ⟨_, rfl, readyFrame_keeps inv.steady inv.startPumpBody h⟩
    | stopCoastDrum => exact ⟨_, rfl, ready stopCoastDrumBody_steady⟩
    | stopBrakeDrum => exact ⟨_, rfl, ready stopBrakeDrumBody_steady⟩
    | stopCoastPump => exact ⟨_, rfl, ready stopCoastPumpBody_steady⟩
    | stopBrakePump => exact ⟨_, rfl, refusedReady _⟩
    | clearDrum => exact ⟨_, rfl, ready clearDrumBody_steady⟩
    | clearPump => exact ⟨_, rfl, ready clearPumpBody_steady⟩
    | dryOn m => exact ⟨_, rfl, ready (dryBody_steady m true)⟩
    | dryOff m => exact ⟨_, rfl, ready (dryBody_steady m false)⟩
    | reportOn m => exact ⟨_, rfl, ready (setReport_steady m true)⟩
    | reportOff m => exact ⟨_, rfl, ready (setReport_steady m false)⟩
    | clearFlags => exact ⟨_, rfl, ready (withFlags_steady _)⟩
    | reset =>
      exact ⟨_, rfl, readyFrame_keeps inv.steady
        (fun s _ _ => inv.steady (joinResetNotice_steady _) (inv.reset .command s)) h⟩
    | faultLineFall m =>
      refine ⟨_, rfl, ?_⟩
      split
      · exact h
      · exact inv.steady ((moveFaultLine_steady m true s).trans (gateFault_steady m _)) h
    | faultLineRise m => exact ⟨_, rfl, event fun _ => inv.steady (moveFaultLine_steady m false s) h⟩
    | enableTimeReached m x => exact ⟨_, rfl, event fun _ => inv.steady (takeEnable_steady m x s) h⟩
    | drumPeriodStart permit o => exact ⟨_, rfl, event fun _ => inv.steady (drumPeriodStart_steady permit o s) h⟩
    | planPoint => exact ⟨_, rfl, event fun _ => inv.planAtPoint _ (inv.steady (latchHalf_steady s) h)⟩
    | planEdge x =>
      refine ⟨_, rfl, ?_⟩
      split
      · exact inv.steady (drive_steady _ _ _ s) h
      · exact h
    | pumpPeriodStart b =>
      exact ⟨_, rfl, event fun _ =>
        inv.steady ((beginPumpPeriod_steady s).trans (openPumpPeriod_steady b _)) h⟩
    | pumpPeak =>
      exact ⟨_, rfl, event fun _ => inv.steady ((withPumpCar_steady s _).trans (alignAtPeak_steady _)) h⟩
    | pumpSpanEdge => exact ⟨_, rfl, event fun _ => inv.steady (drive_steady _ _ _ s) h⟩
    | conversionStart =>
      refine ⟨_, rfl, ?_⟩
      split
      · exact inv.steady (startConversion_steady _ s) h
      · exact h
    | conversionDone code first =>
      refine ⟨_, rfl, ?_⟩
      split
      · exact inv.steady (finishConversion_steady _ code first s) h
      · exact h
    | requestExpiry =>
      refine ⟨_, rfl, ?_⟩
      split
      · exact inv.steady (expire_steady _ s) h
      · exact h
    | dueCommutation => exact ⟨_, rfl, event fun _ => inv.steady (commutate_steady _ _ s) h⟩
    | zcTimeout =>
      refine ⟨_, rfl, ?_⟩
      split
      case h_1 due => exact inv.timeout _ s h (timeoutDue_closed due)
      case h_2 => exact h
    | rampCommutation =>
      exact ⟨_, rfl, event fun due =>
        inv.steady (rampCommutation_steady (of_decide_eq_true (Bool.and_eq_true_iff.1 due).1)) h⟩
    | controlUnknownCode => exact ⟨_, rfl, refusedReady _⟩
    | tableUnknownId => exact ⟨_, rfl, refusedReady _⟩
    | queryUnknownPage => exact ⟨_, rfl, refused _⟩
  obtain ⟨u, hu, hP⟩ := goes
  rw [hu] at he
  cases he
  exact hP

end

/-- Every step keeps an event invariant: it runs the command in front, or idles (log 1). -/
theorem EventInvariant.step {P : State → Prop} (inv : EventInvariant P) {s t : State} (h : P s)
    (hs : Machine.step s = .next t) : P t := by
  unfold Machine.step idle at hs
  split at hs
  · exact inv.exec (inv.steady (withPending_steady s _) h) hs
  · split at hs
    · exact inv.exec (inv.steady (withFreeCount_steady s _) h) hs
    · cases hs
      exact inv.steady (passIdle_steady s) h

/-! ### What the unsteady events do -/

/-- The state in which an accepted SETUP takes its period starts: the fields stored, the link in READY, the carriers
restarted, no entry open (R5, R83, R152). -/
def setUp (f : SetupFields) (s : State) : State :=
  let t := (s.withSetup (clampSetup f)).withLink { s.link with state := .ready }
  let u := restartCarriers (startTimebase t)
  u.withRecon { u.recon with periodEntry := none, houseEntry := none }

/-- From there on, an accepted SETUP is steady. -/
theorem acceptSetup_steady (f : SetupFields) (permit : Bool) (s : State) :
    Steady (setUp f s) (acceptSetup f permit s) :=
  ((takePermit_steady permit .drum (setUp f s)).trans (applyPlan_steady _)).trans
    (((openHouse_steady _).trans (houseRequests_steady _)).trans (openPumpPeriod_steady false _))

/-- A pump START leaves the drum alone (R132). -/
theorem acceptStartPump_drum (s : State) : DrumSteady s (acceptStartPump s) := by
  unfold acceptStartPump startPumpCounters
  simp only
  split <;> exact .still (by simp)

/-- A pump START empties the miss count and leaves the limit and the link (R132). -/
theorem acceptStartPump_pump (s : State) :
    (acceptStartPump s).comm.zcMisses = 0 ∧ (acceptStartPump s).pump.profile = s.pump.profile ∧
    (acceptStartPump s).link.state = s.link.state := by
  unfold acceptStartPump startPumpCounters
  simp only
  split
  · simp [enterPumpOffset, pumpStateNotice]
  · simp [enterAlign, pumpStateNotice]

/-- A drum START: OFFSET or READY with the miss count at 0 (R91). -/
theorem acceptStartDrum_eq (s : State) :
    ∃ st c, st ≠ .safe ∧ acceptStartDrum s =
      changeDrum st ((startDrumCounters s).withDrum { s.drum with calib := c }) := by
  unfold acceptStartDrum
  simp only
  split
  · exact ⟨.offset, .zero, by simp, rfl⟩
  · exact ⟨.ready, s.drum.calib, by simp, rfl⟩

/-- A timeout leaves the drum alone (R121, R122). -/
theorem takeTimeout_drum (d : Tick) (s : State) : DrumSteady s (takeTimeout d s) := .still (by simp)

/-! ### The drum's parts (R23, R71, R89, R94) -/

theorem drumKept_setUp (f : SetupFields) {s : State} (h : DrumKept s) : DrumKept (setUp f s) :=
  ⟨h.cause, h.stop, h.slot, h.prepared, h.inForce, fun held => by cases held⟩

theorem drumKept_startDrum {s : State} (h : DrumKept s) (off : s.drum.state = .off) : DrumKept (acceptStartDrum s) := by
  obtain ⟨st, c, safe, eq⟩ := acceptStartDrum_eq s
  rw [eq]
  refine changeDrum_keeps safe (h.cause_eq_none (by simp [off])) fun held => .inr ?_
  rcases h.entry held with run | due
  · simp [off] at run
  · exact due

theorem drumKept_takeEntry (d : PerPhase Word) {s : State} (h : DrumKept s)
    (on : s.drum.state = .ready ∨ s.drum.state = .run) : DrumKept (takeEntry d s) :=
  ⟨h.cause, h.stop, fun held => (by cases held), fun _ => on, h.inForce, h.entry⟩

theorem drumKept_preparePlan (d : PerPhase Word) {s : State} (h : DrumKept s) (run : s.drum.state = .run) :
    DrumKept (preparePlan d s) :=
  ⟨h.cause, h.stop, h.slot, fun _ => .inr run, h.inForce, h.entry⟩

theorem lateNotice_steady (first : Bool) (s : State) : Steady s (lateNotice first s) := by
  unfold lateNotice
  split
  · exact joinNotice_steady _ s
  · exact .refl s

@[simp] theorem lateNotice_kept (first : Bool) (s : State) :
    (lateNotice first s).drum = s.drum ∧ (lateNotice first s).planner = s.planner := by
  unfold lateNotice
  split <;> simp

theorem drumKept_countMiss {s : State} (h : DrumKept s) (run : s.drum.state = .run) : DrumKept (countMiss s) := by
  unfold countMiss
  extract_lets first _ t
  have counted : DrumKept (s.withPlanner { s.planner with misses := s.planner.misses + 1 }) :=
    ⟨h.cause, h.stop, h.slot, h.prepared, h.inForce, h.entry⟩
  split
  · exact drumKept_preparePlan _ ((lateNotice_steady first _).drum.kept counted) (by simp [t, run])
  · exact enterDrumSafe_keeps _ t

theorem drumKept_invariant : EventInvariant DrumKept where
  steady h := h.drum.kept
  reset cause s := by constructor <;> simp [resetPart, State.reset]
  setup f permit s h _ := (acceptSetup_steady f permit s).drum.kept (drumKept_setUp f h)
  startDrum s h _ off := drumKept_startDrum h off
  startPump s h _ _ := (acceptStartPump_drum s).kept h
  profile f i s h _ _ := ⟨h.cause, h.stop, h.slot, h.prepared, h.inForce, h.entry⟩
  entry d s h on := drumKept_takeEntry d h on
  miss s h run := drumKept_countMiss h run
  timeout d s h _ := (takeTimeout_drum d s).kept h

/-- Settles O37, by the induction over commands. -/
theorem drumStaysKept : Obligations.DrumStaysKept := by
  unfold Obligations.DrumStaysKept
  exact fun s t h hs => drumKept_invariant.step h hs

/-! ### The miss counters (R26, R122) -/

/-- The law of the miss counters, with limits that leave a START below them (R28, R129). -/
structure MissLimits (s : State) : Prop where
  kmiss : 1 ≤ s.setup.kmiss
  kzc : 1 ≤ s.pump.profile.kzc
  kept : MissesKept s

theorem MissLimits.steady {s t : State} (h : Steady s t) (k : MissLimits s) : MissLimits t where
  kmiss := by rw [h.drum.setup]; exact k.kmiss
  kzc := by rw [h.pump.profile]; exact k.kzc
  kept :=
    { await := fun await => by
        obtain ⟨drum, pump⟩ := k.kept.await (h.link.symm.trans await)
        exact ⟨h.drum.off drum, h.pump.off pump⟩
      drumRunning := fun on => by
        rw [h.drum.misses, h.drum.setup]
        exact k.kept.drumRunning (h.drum.on on)
      drum := fun on => by
        rw [h.drum.misses, h.drum.setup]
        exact k.kept.drum fun off => on (h.drum.off off)
      pumpRunning := fun on => by
        rw [h.pump.profile]
        exact h.pump.misses.trans_lt (k.kept.pumpRunning (h.pump.on on))
      pump := fun on => by
        rw [h.pump.profile]
        exact h.pump.misses.trans (k.kept.pump fun off => on (h.pump.off off)) }

/-- An event of the drum alone, out of AWAIT_SETUP. -/
theorem MissLimits.of_drum {s t : State} (h : MissLimits s) (link : t.link.state ≠ .awaitSetup)
    (setup : t.setup = s.setup) (pump : PumpSteady s t) (running : DrumOn t → t.planner.misses < s.setup.kmiss)
    (on : t.drum.state ≠ .off → t.planner.misses ≤ s.setup.kmiss) : MissLimits t where
  kmiss := by rw [setup]; exact h.kmiss
  kzc := by rw [pump.profile]; exact h.kzc
  kept :=
    { await := fun await => absurd await link
      drumRunning := by rw [setup]; exact running
      drum := by rw [setup]; exact on
      pumpRunning := fun on => by
        rw [pump.profile]
        exact pump.misses.trans_lt (h.kept.pumpRunning (pump.on on))
      pump := fun on => by
        rw [pump.profile]
        exact pump.misses.trans (h.kept.pump fun off => on (pump.off off)) }

/-- An event of the pump alone, out of AWAIT_SETUP. -/
theorem MissLimits.of_pump {s t : State} (h : MissLimits s) (link : t.link.state ≠ .awaitSetup)
    (drum : DrumSteady s t) (kzc : 1 ≤ t.pump.profile.kzc)
    (running : PumpOn t → t.comm.zcMisses < t.pump.profile.kzc)
    (on : t.pump.state ≠ .off → t.comm.zcMisses ≤ t.pump.profile.kzc) : MissLimits t where
  kmiss := by rw [drum.setup]; exact h.kmiss
  kzc := kzc
  kept :=
    { await := fun await => absurd await link
      drumRunning := fun on => by
        rw [drum.misses, drum.setup]
        exact h.kept.drumRunning (drum.on on)
      drum := fun on => by
        rw [drum.misses, drum.setup]
        exact h.kept.drum fun off => on (drum.off off)
      pumpRunning := running
      pump := on }

/-- With both motors OFF the counters bind nothing. -/
theorem MissLimits.of_off {s : State} (kmiss : 1 ≤ s.setup.kmiss) (kzc : 1 ≤ s.pump.profile.kzc)
    (drum : s.drum.state = .off) (pump : s.pump.state = .off) : MissLimits s :=
  ⟨kmiss, kzc, fun _ => ⟨drum, pump⟩, by simp [drum], by simp [drum], by simp [pump, PumpState.running],
    by simp [pump]⟩

theorem MissLimits.link_of_drum {s : State} (h : MissLimits s) (on : s.drum.state ≠ .off) :
    s.link.state ≠ .awaitSetup := fun await => on (h.kept.await await).1

theorem MissLimits.link_of_pump {s : State} (h : MissLimits s) (on : s.pump.state ≠ .off) :
    s.link.state ≠ .awaitSetup := fun await => on (h.kept.await await).2

/-- A SETUP is accepted with both motors OFF, in AWAIT_SETUP too (R152). -/
theorem missLimits_setup (f : SetupFields) (permit : Bool) {s : State} (h : MissLimits s)
    (hoff : s.link.state = .ready → bothOff s = true) : MissLimits (acceptSetup f permit s) := by
  have off : s.drum.state = .off ∧ s.pump.state = .off := by
    cases link : s.link.state with
    | awaitSetup => exact h.kept.await link
    | ready => simpa [bothOff] using hoff link
  have kmiss : 1 ≤ (clampSetup f).kmiss := Nat.le_max_left ..
  exact (MissLimits.of_off (s := setUp f s) kmiss h.kzc off.1 off.2).steady (acceptSetup_steady f permit s)

theorem missLimits_startDrum {s : State} (h : MissLimits s) (ready : s.link.state = .ready) :
    MissLimits (acceptStartDrum s) := by
  obtain ⟨st, c, -, eq⟩ := acceptStartDrum_eq s
  have misses : (acceptStartDrum s).planner.misses = 0 := by simp [eq, startDrumCounters]
  refine h.of_drum ?_ ?_ (.still ?_) (fun _ => ?_) fun _ => ?_
  · simp [eq, startDrumCounters, ready]
  · simp [eq, startDrumCounters]
  · simp [eq, startDrumCounters]
  · rw [misses]
    exact h.kmiss
  · rw [misses]
    exact Nat.zero_le _

theorem missLimits_startPump {s : State} (h : MissLimits s) (ready : s.link.state = .ready) :
    MissLimits (acceptStartPump s) := by
  obtain ⟨misses, profile, link⟩ := acceptStartPump_pump s
  have kzc := h.kzc
  rw [← profile] at kzc
  refine h.of_pump (by simp [link, ready]) (acceptStartPump_drum s) kzc (fun _ => ?_) fun _ => ?_
  · rw [misses]
    exact kzc
  · rw [misses]
    exact Nat.zero_le _

/-- A new profile is taken with the pump OFF (R130). -/
theorem missLimits_profile (f : ProfileFields) (i : Fin 6) {s : State} (h : MissLimits s)
    (ready : s.link.state = .ready) (off : s.pump.state = .off) :
    MissLimits (s.withPump { s.pump with profile := clampProfile f i }) := by
  refine h.of_pump (by simp [ready]) (.still (by simp)) (Nat.le_max_left ..) ?_ ?_
  · simp [PumpOn, off, PumpState.running]
  · simp [off]

theorem missLimits_takeEntry (d : PerPhase Word) {s : State} (h : MissLimits s)
    (on : s.drum.state = .ready ∨ s.drum.state = .run) : MissLimits (takeEntry d s) :=
  h.of_drum (h.link_of_drum (by rcases on with on | on <;> simp [on])) rfl (.still ⟨rfl, rfl, rfl⟩)
    (fun _ => h.kmiss) fun _ => Nat.zero_le _

/-- A miss in RUN comes from below the limit, so the counter stands at it at most, and then in SAFE (R26). -/
theorem missLimits_countMiss {s : State} (h : MissLimits s) (run : s.drum.state = .run) : MissLimits (countMiss s) := by
  have below : s.planner.misses < s.setup.kmiss := h.kept.drumRunning (.inr (.inr run))
  have link := h.link_of_drum (by simp [run])
  unfold countMiss
  extract_lets first _ t
  have late := lateNotice_steady first (s.withPlanner { s.planner with misses := s.planner.misses + 1 })
  have misses : t.planner.misses = s.planner.misses + 1 := late.drum.misses
  have tlink : t.link.state ≠ .awaitSetup := by rwa [show t.link.state = s.link.state from late.link]
  have setup : t.setup = s.setup := late.drum.setup
  have counted : PumpSteady s (s.withPlanner { s.planner with misses := s.planner.misses + 1 }) :=
    .still ⟨rfl, rfl, rfl⟩
  have pump : PumpSteady s t := counted.trans late.pump
  split
  case isTrue again =>
    rw [setup] at again
    exact h.of_drum tlink setup (pump.trans (.still ⟨rfl, rfl, rfl⟩)) (fun _ => again) fun _ => again.le
  case isFalse =>
    have safe := enterDrumSafe_steady .lateDuty (s := t) (by simp [t, run])
    refine h.of_drum (by rwa [safe.link]) (safe.drum.setup.trans setup) (pump.trans safe.pump) (by simp [DrumOn])
      fun _ => ?_
    rw [safe.drum.misses, misses]
    exact below

theorem zcMissNotice_steady (first : Bool) (i : Fin 6) (s : State) : Steady s (zcMissNotice first i s) := by
  unfold zcMissNotice
  split
  · exact joinNotice_steady _ s
  · exact .refl s

/-- A timeout counts one; below the limit the pump stays in its state, at the limit it goes to SAFE (R121, R122). -/
theorem takeTimeout_pump (d : Tick) (s : State) :
    (takeTimeout d s).link.state = s.link.state ∧ (takeTimeout d s).pump.profile = s.pump.profile ∧
    (takeTimeout d s).comm.zcMisses = s.comm.zcMisses + 1 ∧
    (takeTimeout d s).pump.state =
      if s.comm.zcMisses + 1 < s.pump.profile.kzc then s.pump.state else .safe := by
  unfold takeTimeout
  extract_lets first _ t
  have below : t.comm.zcMisses < t.pump.profile.kzc ↔ s.comm.zcMisses + 1 < s.pump.profile.kzc := Iff.rfl
  split
  case isTrue again =>
    have forced := fun v => commutate_still .forced v t
    have link := fun v => (zcMissNotice_steady first s.comm.stepIndex (commutate .forced v t)).link.trans
      (commutate_steady .forced v t).link
    rw [if_pos (below.1 again)]
    refine ⟨link _, ?_, ?_, ?_⟩ <;> simp [forced, t]
  case isFalse stall =>
    have link := (zcMissNotice_steady first s.comm.stepIndex t).link
    rw [if_neg (mt below.2 stall)]
    refine ⟨?_, ?_, ?_, ?_⟩
    · simpa [t] using link
    all_goals simp [t]

/-- A timeout in CLOSED comes from below the limit, so the counter stands at it at most, and then in SAFE (R121, R122). -/
theorem missLimits_takeTimeout (d : Tick) {s : State} (h : MissLimits s) (closed : s.pump.state = .closed) :
    MissLimits (takeTimeout d s) := by
  have below : s.comm.zcMisses < s.pump.profile.kzc := h.kept.pumpRunning (.inr (by rw [closed]; rfl))
  obtain ⟨link, profile, misses, state⟩ := takeTimeout_pump d s
  refine h.of_pump ?_ (takeTimeout_drum d s) ?_ (fun on => ?_) fun _ => ?_
  · rw [link]
    exact h.link_of_pump (by simp [closed])
  · rw [profile]
    exact h.kzc
  · rw [misses, profile]
    by_contra stall
    simp [PumpOn, state, stall, PumpState.running] at on
  · rw [misses, profile]
    exact below

theorem missLimits_invariant : EventInvariant MissLimits where
  steady := MissLimits.steady
  reset cause s := .of_off (by simp [resetPart, State.reset, SetupStore.default])
    (by simp [resetPart, State.reset, StartProfile.default]) rfl rfl
  setup f permit s h hoff := missLimits_setup f permit h hoff
  startDrum s h ready _ := missLimits_startDrum h ready
  startPump s h ready _ := missLimits_startPump h ready
  profile f i s h ready off := missLimits_profile f i h ready off
  entry d s h on := missLimits_takeEntry d h on
  miss s h run := missLimits_countMiss h run
  timeout d s h closed := missLimits_takeTimeout d h closed

/-- Settles O20, by the induction over commands: the limits of the stores let a START begin below them. -/
theorem missCountersKeepLimits : Obligations.MissCountersKeepLimits := by
  unfold Obligations.MissCountersKeepLimits
  exact fun s t stores misses hs =>
    (missLimits_invariant.step ⟨stores.setup.kmiss.1, stores.profile.kzc.1, misses⟩ hs).kept

end Sys2Proof.Machine
end

section
/-! PROOFS. The conversion request queue: its keys and its order (R47, R49), and what a joining request does (R49 to
R51). -/

namespace Sys2Proof.Machine

/-! ### Keys and order -/

theorem sameKey_iff (a b : Request) :
    a.sameKey b = true ↔ b.owner = a.owner ∧ b.period = a.period ∧ b.window = a.window := by
  simp only [Request.sameKey, Bool.and_eq_true, decide_eq_true_eq, and_assoc]
  exact ⟨fun ⟨o, p, w⟩ => ⟨o.symm, p.symm, w.symm⟩, fun ⟨o, p, w⟩ => ⟨o.symm, p.symm, w.symm⟩⟩

theorem sameKey_comm (a b : Request) : a.sameKey b = b.sameKey a := by
  simp only [Request.sameKey, eq_comm]

theorem insertRequest_perm (r : Request) (l : List Request) : (insertRequest r l).Perm (r :: l) := by
  induction l with
  | nil => exact .refl _
  | cons x l ih =>
    simp only [insertRequest]
    split
    · exact .refl _
    · exact (ih.cons x).trans (.swap r x l)

/-- The latest start lies at most one tick back and at most 16000 ticks ahead. -/
def Request.Near (now : Tick) (r : Request) : Prop := (r.latest + 1 - now).toNat ≤ 16001

theorem Request.Near.of_later {r : Request} {now : Tick} {n : Nat} (latest : r.latest = later now n)
    (h : n ≤ 16000) : r.Near now := by
  have hn : (later now n + 1 - now : Tick) = BitVec.ofNat 32 (n + 1) := by
    rw [later, BitVec.ofNat_add, add_assoc, add_sub_cancel_left]
    rfl
  rw [Request.Near, latest, hn, BitVec.toNat_ofNat]
  omega

/-- Of two near requests at most one stands before the other (R49). -/
theorem not_before_of_before {now : Tick} {a b : Request} (ha : a.Near now) (hb : b.Near now) (h : a.Before b) :
    ¬b.Before a := by
  rcases a with ⟨ao, am, ap, aw, ae, al⟩
  rcases b with ⟨bo, bm, bp, bw, be, bl⟩
  simp only [Request.Near] at ha hb
  simp only [Request.Before, passed_iff_of_near now _ _ ha hb, passed_iff_of_near now _ _ hb ha] at h ⊢
  rcases h with h | ⟨rfl, h⟩
  · rintro (h' | ⟨rfl, -⟩) <;> omega
  · cases ao <;> cases bo <;> simp at h ⊢ <;> omega

/-- A near request joins a sorted queue of near requests in its place (R49). -/
theorem insertRequest_sorted {now : Tick} {r : Request} {l : List Request} (hr : r.Near now)
    (near : ∀ q ∈ l, q.Near now) (sorted : l.Pairwise fun a b => ¬b.Before a) :
    (insertRequest r l).Pairwise fun a b => ¬b.Before a := by
  induction l with
  | nil => exact List.pairwise_singleton ..
  | cons x l ih =>
    have hx : x.Near now := near x (by simp)
    have nearTail : ∀ q ∈ l, q.Near now := fun q hq => near q (by simp [hq])
    obtain ⟨first, tail⟩ := List.pairwise_cons.1 sorted
    simp only [insertRequest]
    split
    case isTrue h =>
      have behind : ¬x.Before r := not_before_of_before hr hx ((ahead_iff_before r x).1 h)
      refine List.pairwise_cons.2 ⟨fun q hq => ?_, sorted⟩
      rcases List.mem_cons.1 hq with rfl | hq
      · exact behind
      · exact not_before_trans now r x q hr hx (nearTail q hq) behind (first q hq)
    case isFalse h =>
      refine List.pairwise_cons.2 ⟨fun q hq => ?_, ih nearTail tail⟩
      rcases (mem_insertRequest r q l).1 hq with rfl | hq
      · exact fun before => h ((ahead_iff_before q x).2 before)
      · exact first q hq

/-! ### A joining request (R49 to R51) -/

/-- A LOST outcome does not read the queue, and leaves it. -/
@[simp] theorem afterLost_withQueue (reason : LostReason) (r : Request) (q : List Request) (s : State) :
    afterLost reason r (s.withQueue q) = (afterLost reason r s).withQueue q := rfl

/-- With a free place the request takes its place in the queue (R49). -/
theorem joinRequest_of_room {r : Request} {s : State} (fresh : s.sched.queue.find? r.sameKey = none)
    (room : s.sched.queue.length < 8) : joinRequest r s = s.withQueue (insertRequest r s.sched.queue) := by
  simp [joinRequest, fresh, Config.requestCapacity, room]

/-- The request takes the place of the one with its key, which is lost (R50). -/
theorem joinRequest_of_sameKey {r old : Request} {s : State} (found : s.sched.queue.find? r.sameKey = some old) :
    joinRequest r s =
      (afterLost .superseded old s).withQueue (insertRequest r (s.sched.queue.eraseP r.sameKey)) := by
  simp only [joinRequest, found, deliverLost_eq]
  rfl

/-- With eight others queued the request itself is lost (R51). -/
theorem joinRequest_of_full {r : Request} {s : State} (fresh : s.sched.queue.find? r.sameKey = none)
    (full : 8 ≤ s.sched.queue.length) : joinRequest r s = afterLost .queueFull r s := by
  simp [joinRequest, fresh, Config.requestCapacity, full.not_gt, deliverLost_eq]

/-- The three cases of a joining request, in the words of R49 to R51. -/
theorem joinRequest_by_key_and_room (r : Request) (s : State) :
    let same := fun q : Request => q.owner = r.owner ∧ q.period = r.period ∧ q.window = r.window
    let place := fun ahead behind : List Request =>
      (∀ q ∈ ahead, ¬r.Before q) ∧ (∀ q, behind.head? = some q → r.Before q)
    (∀ ahead behind, (∀ q ∈ s.sched.queue, ¬same q) → s.sched.queue.length < 8 → s.sched.queue = ahead ++ behind →
      place ahead behind →
      joinRequest r s = { s with sched := { s.sched with queue := ahead ++ r :: behind } }) ∧
    (∀ xs old ys ahead behind, s.sched.queue = xs ++ old :: ys → same old → (∀ q ∈ xs, ¬same q) →
      xs ++ ys = ahead ++ behind → place ahead behind →
      let u := afterLost .superseded old s
      joinRequest r s = { u with sched := { u.sched with queue := ahead ++ r :: behind } }) ∧
    ((∀ q ∈ s.sched.queue, ¬same q) → 8 ≤ s.sched.queue.length → joinRequest r s = afterLost .queueFull r s) := by
  intro same place
  have key : ∀ {q}, ¬same q ↔ ¬r.sameKey q = true := fun {q} => not_congr (sameKey_iff r q).symm
  have fresh : (∀ q ∈ s.sched.queue, ¬same q) → s.sched.queue.find? r.sameKey = none := fun h =>
    List.find?_eq_none.2 fun q hq => key.1 (h q hq)
  refine ⟨fun ahead behind free room queue ⟨after, before⟩ => ?_,
    fun xs old ys ahead behind queue replaced first rest ⟨after, before⟩ => ?_,
    fun free full => joinRequest_of_full (fresh free) full⟩
  · rw [joinRequest_of_room (fresh free) room, queue, insertRequest_append r ahead behind after before]
    rfl
  · have replaced : r.sameKey old = true := (sameKey_iff r old).2 replaced
    have others : ∀ q ∈ xs, ¬r.sameKey q = true := fun q hq => key.1 (first q hq)
    have found : s.sched.queue.find? r.sameKey = some old := by
      rw [queue, List.find?_append, List.find?_eq_none.2 others, Option.none_or, List.find?_cons_of_pos replaced]
    have left : s.sched.queue.eraseP r.sameKey = ahead ++ behind := by
      rw [queue, List.eraseP_append_right _ others, List.eraseP_cons_of_pos replaced, rest]
    rw [joinRequest_of_sameKey found, left, insertRequest_append r ahead behind after before]
    rfl

end Sys2Proof.Machine
end

section
/-! PROOFS. What an event may do at the converter's and the reconstructor's parts: the relation `Scheduled`, and that
each operation of the model keeps to it. -/

namespace Sys2Proof.Machine

/-! ### The laws of the queue (R46, R49, R51) -/

theorem assigned_congr {s t : State} (table : t.sched.table = s.sched.table) (m : Measurand) :
    assigned m t = assigned m s := by
  simp only [assigned, inputRow, table]

/-- What leaves requests out keeps the queue's bounds, if no row of those left loses its input. -/
theorem ConverterQueueKept.of_sublist {s t : State} (h : ConverterQueueKept s)
    (queue : t.sched.queue.Sublist s.sched.queue)
    (inputs : ∀ q ∈ t.sched.queue, Machine.assigned q.measurand s = true → Machine.assigned q.measurand t = true)
    (converting : ∀ c, t.sched.converter = some c → c.input.isSome = true) : ConverterQueueKept t where
  capacity := queue.length_le.trans h.capacity
  keys := h.keys.sublist queue
  assigned := fun q hq => inputs q hq (h.assigned q (queue.subset hq))
  converting := converting

/-- A request of an assigned row with a key of its own takes a free place. -/
theorem ConverterQueueKept.insert {s : State} {r : Request} (h : ConverterQueueKept s)
    (input : Machine.assigned r.measurand s = true) (room : s.sched.queue.length < 8)
    (fresh : ∀ q ∈ s.sched.queue, r.sameKey q = false) :
    ConverterQueueKept (s.withQueue (insertRequest r s.sched.queue)) where
  capacity := by
    change (insertRequest r s.sched.queue).length ≤ 8
    rw [length_insertRequest]
    exact room
  keys := by
    have symm : ∀ {a b : Request}, a.sameKey b = false → b.sameKey a = false := fun {a b} hab => by
      rwa [sameKey_comm]
    exact ((insertRequest_perm r s.sched.queue).pairwise_iff symm).2 (List.pairwise_cons.2 ⟨fresh, h.keys⟩)
  assigned := fun q hq => by
    rcases (mem_insertRequest r q s.sched.queue).1 hq with rfl | hq
    · exact input
    · exact h.assigned q hq
  converting := h.converting

/-- Without the request of a key no request with that key is left. -/
theorem ConverterQueueKept.fresh_eraseP {s : State} {r old : Request} (h : ConverterQueueKept s)
    (found : s.sched.queue.find? r.sameKey = some old) :
    ∀ q ∈ s.sched.queue.eraseP r.sameKey, r.sameKey q = false := by
  obtain ⟨same, xs, ys, queue, first⟩ := List.find?_eq_some_iff_append.1 found
  have first : ∀ q ∈ xs, r.sameKey q = false := fun q hq => by simpa using first q hq
  have keys := h.keys
  rw [queue, List.pairwise_append, List.pairwise_cons] at keys
  obtain ⟨-, ⟨behind, -⟩, -⟩ := keys
  rw [queue, List.eraseP_append_right _ (fun q hq => by simp [first q hq]), List.eraseP_cons_of_pos same]
  intro q hq
  rcases List.mem_append.1 hq with hq | hq
  · exact first q hq
  · rw [← Bool.not_eq_true, sameKey_iff]
    intro hrq
    have hold := behind q hq
    rw [← Bool.not_eq_true, sameKey_iff] at hold
    obtain ⟨o, p, w⟩ := (sameKey_iff r old).1 same
    exact hold (by rwa [o, p, w])

/-- The half-periods of both carriers are in range (R3, R4), as far as the order of the queue needs it. -/
structure HalvesBelow (s : State) : Prop where
  half : s.drumCar.half ≤ 8000
  pendingHalf : s.drumCar.pendingHalf ≤ 8000
  latchedHalf : s.drumCar.latchedHalf ≤ 8000
  pumpHalf : s.pumpCar.half ≤ 8000
  pumpPendingHalf : s.pumpCar.pendingHalf ≤ 8000

/-- The queue stands in its order, and the half-periods, from which new requests take their times, are in range. -/
structure QueuePlaced (s : State) : Prop where
  ordered : QueueOrdered s
  halves : HalvesBelow s

/-- What leaves requests out, at the same tick, keeps the order of the queue. -/
theorem QueueOrdered.of_sublist {s t : State} (h : QueueOrdered s) (queue : t.sched.queue.Sublist s.sched.queue)
    (tick : t.time.tick = s.time.tick)
    (prepared : t.planner.prepared = none ∨ t.planner.prepared = s.planner.prepared) : QueueOrdered t where
  sorted := h.sorted.sublist queue
  near := fun r hr => by
    rw [tick]
    exact h.near r (queue.subset hr)
  planned := fun p q hp => by
    rcases prepared with none | same
    · simp [none] at hp
    · exact h.planned p q (same ▸ hp)

theorem QueuePlaced.insert {s : State} {r : Request} (h : QueuePlaced s) (near : r.Near s.time.tick) :
    QueuePlaced (s.withQueue (insertRequest r s.sched.queue)) where
  ordered :=
    { sorted := insertRequest_sorted near h.ordered.near h.ordered.sorted
      near := fun q hq => by
        rcases (mem_insertRequest r q s.sched.queue).1 hq with rfl | hq
        · exact near
        · exact h.ordered.near q hq
      planned := h.ordered.planned }
  halves := ⟨h.halves.half, h.halves.pendingHalf, h.halves.latchedHalf, h.halves.pumpHalf, h.halves.pumpPendingHalf⟩

/-! ### The relation -/

/-- The last fresh currents and the runs are in range (R70). -/
structure RunsInRange (r : Reconstructor) : Prop where
  currents : CurrentInRange r.lastFresh.a ∧ CurrentInRange r.lastFresh.b ∧ CurrentInRange r.lastFresh.c
  overRun : r.overRun ≤ 3
  heldRun : r.heldRun ≤ 16
  busHighRun : r.busHighRun ≤ 3
  overTempRun : r.overTempRun ≤ 3

theorem ReconstructorInRange.runs {s : State} (h : ReconstructorInRange s) : RunsInRange s.recon :=
  ⟨h.currents, h.overRun, h.heldRun, h.busHighRun, h.overTempRun⟩

/-- An event that keeps the three laws of the converter and the reconstructor, in the states they hold in. -/
structure Scheduled (s t : State) : Prop where
  queue : ConverterQueueKept s → ConverterQueueKept t
  placed : QueuePlaced s → QueuePlaced t
  range : ReconstructorInRange s → ReconstructorInRange t

theorem Scheduled.refl (s : State) : Scheduled s s := ⟨id, id, id⟩

theorem Scheduled.trans {s t u : State} (h : Scheduled s t) (k : Scheduled t u) : Scheduled s u :=
  ⟨fun a => k.queue (h.queue a), fun a => k.placed (h.placed a), fun a => k.range (h.range a)⟩

/-- The parts that the three laws read, but for the carriers, stand as they were; a prepared plan may be given up. -/
@[simp] def SameScheduling (s t : State) : Prop :=
  t.sched = s.sched ∧ t.time.tick = s.time.tick ∧
  (t.planner.prepared = none ∨ t.planner.prepared = s.planner.prepared) ∧
  t.recon.lastFresh = s.recon.lastFresh ∧ t.recon.overRun = s.recon.overRun ∧ t.recon.heldRun = s.recon.heldRun ∧
  t.recon.busHighRun = s.recon.busHighRun ∧ t.recon.overTempRun = s.recon.overTempRun

theorem Scheduled.of_carriers {s t : State} (same : SameScheduling s t) (halves : HalvesBelow s → HalvesBelow t) :
    Scheduled s t := by
  obtain ⟨sched, tick, prepared, lastFresh, overRun, heldRun, busHighRun, overTempRun⟩ := same
  refine ⟨fun h => ?_, fun h => ⟨h.ordered.of_sublist (by rw [sched]) tick prepared, halves h.halves⟩, fun h => ?_⟩
  · exact h.of_sublist (by rw [sched]) (fun q _ => by rw [assigned_congr (by rw [sched])]; exact id)
      (by rw [sched]; exact h.converting)
  · constructor
    case currents => rw [lastFresh]; exact h.currents
    case overRun => rw [overRun]; exact h.overRun
    case heldRun => rw [heldRun]; exact h.heldRun
    case busHighRun => rw [busHighRun]; exact h.busHighRun
    case overTempRun => rw [overTempRun]; exact h.overTempRun
    case busReading => rw [sched]; exact h.busReading
    case lostDrum => rw [sched]; exact h.lostDrum
    case lostPump => rw [sched]; exact h.lostPump

/-- An event that leaves the carriers too. -/
theorem Scheduled.still {s t : State} (same : SameScheduling s t)
    (carriers : t.drumCar = s.drumCar ∧ t.pumpCar = s.pumpCar) : Scheduled s t := by
  obtain ⟨drum, pump⟩ := carriers
  refine .of_carriers same fun h => ⟨?_, ?_, ?_, ?_, ?_⟩
  · rw [drum]; exact h.half
  · rw [drum]; exact h.pendingHalf
  · rw [drum]; exact h.latchedHalf
  · rw [pump]; exact h.pumpHalf
  · rw [pump]; exact h.pumpPendingHalf

/-- The counters and the bus reading of the scheduler are in range (R59, R66). -/
structure Scheduler.InRange (x : Scheduler) : Prop where
  busReading : x.busReading ≤ 4095
  lostDrum : x.lostDrum ≤ 65535
  lostPump : x.lostPump ≤ 65535

theorem ReconstructorInRange.scheduler {s : State} (h : ReconstructorInRange s) : s.sched.InRange :=
  ⟨h.busReading, h.lostDrum, h.lostPump⟩

/-- An event at the scheduler that lets no request join. -/
theorem Scheduled.of_sched {s : State} {x : Scheduler} (queue : x.queue.Sublist s.sched.queue)
    (inputs : ∀ q ∈ x.queue, assigned q.measurand s = true → assigned q.measurand (s.withSched x) = true)
    (converting : ConverterQueueKept s → ∀ c, x.converter = some c → c.input.isSome = true)
    (range : s.sched.InRange → x.InRange) : Scheduled s (s.withSched x) where
  queue := fun h => h.of_sublist queue inputs (converting h)
  placed := fun h =>
    ⟨h.ordered.of_sublist queue rfl (.inr rfl), h.halves.half, h.halves.pendingHalf, h.halves.latchedHalf,
      h.halves.pumpHalf, h.halves.pumpPendingHalf⟩
  range := fun h =>
    have held := range h.scheduler
    { h with busReading := held.busReading, lostDrum := held.lostDrum, lostPump := held.lostPump }

/-- An event at the scheduler that leaves its queue, its table and its converter. -/
theorem Scheduled.of_counters {s : State} {x : Scheduler} (queue : x.queue = s.sched.queue)
    (table : x.table = s.sched.table) (converter : x.converter = s.sched.converter)
    (range : s.sched.InRange → x.InRange) : Scheduled s (s.withSched x) :=
  .of_sched (by rw [queue]) (fun q _ => by rw [assigned_congr (s := s) (t := s.withSched x) table]; exact id)
    (fun h => by rw [converter]; exact h.converting) range

/-- An event at the reconstructor. -/
theorem Scheduled.of_recon {s : State} {x : Reconstructor} (range : RunsInRange s.recon → RunsInRange x) :
    Scheduled s (s.withRecon x) where
  queue := fun h => h.of_sublist (.refl _) (fun _ _ => id) h.converting
  placed := fun h =>
    ⟨h.ordered.of_sublist (.refl _) rfl (.inr rfl), h.halves.half, h.halves.pendingHalf, h.halves.latchedHalf,
      h.halves.pumpHalf, h.halves.pumpPendingHalf⟩
  range := fun h =>
    have held := range h.runs
    { h with
      currents := held.currents
      overRun := held.overRun
      heldRun := held.heldRun
      busHighRun := held.busHighRun
      overTempRun := held.overTempRun }

theorem bothMotors_scheduled {onDrum onPump : State → State} (hd : ∀ s, Scheduled s (onDrum s))
    (hp : ∀ s, Scheduled s (onPump s)) (first : Motor) (s : State) :
    Scheduled s (bothMotors first onDrum onPump s) := by
  cases first with
  | drum => exact (hd s).trans (hp _)
  | pump => exact (hp s).trans (hd _)

theorem takeIf_scheduled {f : State → State} (h : ∀ s, Scheduled s (f s)) (b : Bool) (s : State) :
    Scheduled s (takeIf b f s) := by
  cases b with
  | true => exact h s
  | false => exact .refl s

/-! ### LOST outcomes and joining requests -/

theorem countUp_le (n : Nat) : countUp n ≤ 65535 := Nat.min_le_right _ _

theorem runUp_le (top n : Nat) : runUp top n ≤ top := Nat.min_le_right _ _

theorem afterLost_scheduled (reason : LostReason) (r : Request) (s : State) : Scheduled s (afterLost reason r s) := by
  have counted : Scheduled s (s.withSched (afterLost reason r s).sched) := by
    refine .of_counters rfl rfl rfl fun h => ⟨h.busReading, ?_, ?_⟩
    · simp only [afterLost]
      split
      · exact Nat.min_le_right _ _
      · exact h.lostDrum
    · simp only [afterLost]
      split
      · exact Nat.min_le_right _ _
      · exact h.lostPump
  exact counted.trans (.still (by simp [afterLost]) ⟨rfl, rfl⟩)

theorem deliverLost_scheduled (r : Request) (reason : LostReason) (s : State) :
    Scheduled s (deliverLost r reason s) := by
  rw [deliverLost_eq]
  exact afterLost_scheduled reason r s

theorem withQueue_scheduled {s : State} {q : List Request} (queue : q.Sublist s.sched.queue) :
    Scheduled s (s.withQueue q) :=
  .of_sched queue (fun _ _ => id) (fun h => h.converting) fun h => ⟨h.busReading, h.lostDrum, h.lostPump⟩

/-- The request with a key that a joining request replaces leaves the queue, lost (R50). -/
theorem replaced_scheduled (r old : Request) (s : State) :
    Scheduled s ((afterLost .superseded old s).withQueue (s.sched.queue.eraseP r.sameKey)) :=
  (afterLost_scheduled _ _ _).trans (withQueue_scheduled (s := afterLost .superseded old s) List.eraseP_sublist)

theorem joinRequest_keepsQueue {r : Request} {s : State} (input : assigned r.measurand s = true)
    (h : ConverterQueueKept s) : ConverterQueueKept (joinRequest r s) := by
  cases found : s.sched.queue.find? r.sameKey with
  | none =>
    by_cases room : s.sched.queue.length < 8
    · rw [joinRequest_of_room found room]
      exact h.insert input room fun q hq => by simpa using List.find?_eq_none.1 found q hq
    · rw [joinRequest_of_full found (not_lt.1 room)]
      exact (afterLost_scheduled _ r s).queue h
  | some old =>
    rw [joinRequest_of_sameKey found]
    have left : (s.sched.queue.eraseP r.sameKey).length < 8 := by
      have same := List.find?_some found
      have mem := List.mem_of_find?_eq_some found
      rw [List.length_eraseP_of_mem mem same]
      have := List.length_pos_of_mem mem
      have := h.capacity
      omega
    exact ((replaced_scheduled r old s).queue h).insert input left (h.fresh_eraseP found)

theorem joinRequest_keepsPlaced {r : Request} {s : State} (near : r.Near s.time.tick) (h : QueuePlaced s) :
    QueuePlaced (joinRequest r s) := by
  cases found : s.sched.queue.find? r.sameKey with
  | none =>
    by_cases room : s.sched.queue.length < 8
    · rw [joinRequest_of_room found room]
      exact h.insert near
    · rw [joinRequest_of_full found (not_lt.1 room)]
      exact (afterLost_scheduled _ r s).placed h
  | some old =>
    rw [joinRequest_of_sameKey found]
    exact ((replaced_scheduled r old s).placed h).insert near

theorem joinRequest_keepsRange (r : Request) {s : State} (h : ReconstructorInRange s) :
    ReconstructorInRange (joinRequest r s) := by
  have insert : ∀ {u : State} {q : List Request}, ReconstructorInRange u → ReconstructorInRange (u.withQueue q) :=
    fun k => { k with }
  cases found : s.sched.queue.find? r.sameKey with
  | none =>
    by_cases room : s.sched.queue.length < 8
    · rw [joinRequest_of_room found room]
      exact insert h
    · rw [joinRequest_of_full found (not_lt.1 room)]
      exact (afterLost_scheduled _ r s).range h
  | some old =>
    rw [joinRequest_of_sameKey found]
    exact insert ((afterLost_scheduled _ old s).range h)

/-- A source's request keeps the three laws, if its latest start is near where the queue is in order (R48). -/
theorem makeRequest_placed {r : Request} {s : State} {P : Prop} (near : P → r.Near s.time.tick) :
    (ConverterQueueKept s → ConverterQueueKept (makeRequest r s)) ∧
    (P → QueuePlaced s → QueuePlaced (makeRequest r s)) ∧
    (ReconstructorInRange s → ReconstructorInRange (makeRequest r s)) := by
  unfold makeRequest
  split
  case isTrue input =>
    exact ⟨joinRequest_keepsQueue input, fun hP => joinRequest_keepsPlaced (near hP), joinRequest_keepsRange r⟩
  case isFalse => exact ⟨id, fun _ => id, id⟩

/-- A request whose latest start lies `n` ticks ahead, within the longest period. -/
theorem makeRequest_scheduled {r : Request} {s : State} {n : Nat} (latest : r.latest = later s.time.tick n)
    (h : HalvesBelow s → n ≤ 16000) : Scheduled s (makeRequest r s) :=
  have kept := makeRequest_placed (P := HalvesBelow s) fun halves => Request.Near.of_later latest (h halves)
  ⟨kept.1, fun k => kept.2.1 k.halves k, kept.2.2⟩

theorem unassigned_scheduled (l : List Request) (s : State) :
    Scheduled s (l.foldl (fun t r => deliverLost r .unassigned t) s) := by
  induction l generalizing s with
  | nil => exact .refl s
  | cons r l ih => exact (deliverLost_scheduled r .unassigned s).trans (ih _)

theorem startConversion_scheduled {r : Request} {s : State} (queued : r ∈ s.sched.queue) :
    Scheduled s (startConversion r s) :=
  .of_sched List.erase_sublist (fun _ _ => id)
    (fun h c hc => by
      cases hc
      exact h.assigned r queued)
    fun h => ⟨h.busReading, h.lostDrum, h.lostPump⟩

theorem expire_scheduled (r : Request) (s : State) : Scheduled s (expire r s) :=
  (withQueue_scheduled List.erase_sublist).trans (deliverLost_scheduled _ _ _)

/-! ### Drum State Control -/

theorem joinRecord_scheduled (r : Record) (s : State) : Scheduled s (joinRecord r s) := .still (by simp) (by simp)

theorem joinNotice_scheduled (n : Notice) (s : State) : Scheduled s (joinNotice n s) := .still (by simp) (by simp)

theorem atDrumState_prepared (p : Planner) (st : DrumState) :
    (p.atDrumState st).prepared = none ∨ (p.atDrumState st).prepared = p.prepared := by
  cases st <;> simp [Planner.atDrumState, DrumState.emptiesSlot]

theorem changeDrum_scheduled (st : DrumState) (s : State) : Scheduled s (changeDrum st s) :=
  .still (by simpa using atDrumState_prepared s.planner st) (by simp)

theorem enterDrumSafe_recon (c : Cause) (s : State) :
    (enterDrumSafe c s).recon = { s.recon with periodEntry := endingEntry s } := by
  simp [enterDrumSafe]

theorem enterDrumSafe_scheduled (c : Cause) (s : State) : Scheduled s (enterDrumSafe c s) :=
  .still (by simpa [enterDrumSafe_recon] using atDrumState_prepared s.planner .safe) (by simp)

theorem addDrumCause_scheduled (c : Cause) (s : State) : Scheduled s (addDrumCause c s) := .still (by simp) (by simp)

theorem drumGateFault_scheduled (s : State) : Scheduled s (drumGateFault s) := by
  unfold drumGateFault
  split
  case h_1 => exact .refl s
  case h_6 => exact addDrumCause_scheduled _ s
  all_goals exact enterDrumSafe_scheduled _ s

theorem drumPermitLost_scheduled (s : State) : Scheduled s (drumPermitLost s) := by
  unfold drumPermitLost
  split
  case h_1 =>
    split
    · exact .refl s
    · exact enterDrumSafe_scheduled _ s
  case h_2 => exact addDrumCause_scheduled _ s
  all_goals exact .refl s

theorem drumOverTemp_scheduled (s : State) : Scheduled s (drumOverTemp s) := by
  unfold drumOverTemp
  split
  case h_1 | h_2 => exact enterDrumSafe_scheduled _ s
  all_goals exact .refl s

theorem drumLinkBreak_scheduled (s : State) : Scheduled s (drumLinkBreak s) := by
  unfold drumLinkBreak
  split
  case h_1 | h_2 => exact enterDrumSafe_scheduled _ s
  case h_3 => exact addDrumCause_scheduled _ s
  all_goals exact .refl s

theorem drumOvercurrent_scheduled (s : State) : Scheduled s (drumOvercurrent s) := by
  unfold drumOvercurrent
  split
  · exact enterDrumSafe_scheduled _ s
  · exact .refl s

/-- The input of a row is not written by a calibration (R63). -/
theorem writeOffset_assigned (m n : Measurand) (offset : Nat) (s : State) :
    assigned n (writeOffset m offset s) = assigned n s := by
  unfold writeOffset
  split
  · simp only [assigned, inputRow, State.withSched_sched, Fin.getElem_fin, Vector.getElem_set]
    split
    case isTrue h => simp [h]
    case isFalse => rfl
  · rfl

theorem writeOffset_scheduled (m : Measurand) (n : Nat) (s : State) : Scheduled s (writeOffset m n s) := by
  have inputs := fun q => writeOffset_assigned m q n s
  unfold writeOffset at inputs ⊢
  split at inputs
  case isTrue h =>
    rw [if_pos h]
    exact .of_sched (.refl _) (fun q _ => by rw [inputs]; exact id) (fun h => h.converting)
      fun h => ⟨h.busReading, h.lostDrum, h.lostPump⟩
  case isFalse h =>
    rw [if_neg h]
    exact .refl s

theorem noteOffset_scheduled (n : Notice) (m : Measurand) (offset : Nat) (s : State) :
    Scheduled s (joinNotice n (writeOffset m offset s)) :=
  (writeOffset_scheduled m offset s).trans (joinNotice_scheduled n _)

theorem drumCalibrationCode_scheduled (p : Word) (raw : Code) (s : State) :
    Scheduled s (drumCalibrationCode p raw s) := by
  have sampled : ∀ c, Scheduled s (s.withDrum { s.drum with calib := c }) := fun _ => .still (by simp) (by simp)
  unfold drumCalibrationCode endDrumCalibration
  simp only
  split
  · split
    · split
      · exact ((sampled _).trans (noteOffset_scheduled _ _ _ _)).trans (changeDrum_scheduled _ _)
      · exact (sampled _).trans (enterDrumSafe_scheduled _ _)
    · exact sampled _
  · exact .refl s

/-! ### The pump's blocks -/

theorem pumpCalibrationCode_scheduled (p : Word) (raw : Code) (s : State) :
    Scheduled s (pumpCalibrationCode p raw s) := by
  have sampled : ∀ c, Scheduled s (s.withPump { s.pump with calib := c }) := fun _ => .still (by simp) (by simp)
  have safe : ∀ (c : Cause) (t : State), Scheduled t (enterPumpSafe c t) := fun _ _ => .still (by simp) (by simp)
  have align : ∀ t : State, Scheduled t (enterAlign t) := fun _ => .still (by simp) (by simp)
  unfold pumpCalibrationCode endPumpCalibration
  simp only
  split
  · split
    · split
      · split
        · exact ((sampled _).trans (noteOffset_scheduled _ _ _ _)).trans (align _)
        · exact ((sampled _).trans (noteOffset_scheduled _ _ _ _)).trans (safe _ _)
      · exact (sampled _).trans (safe _ _)
    · exact sampled _
  · exact .refl s

theorem pumpShuntCode_scheduled (p : Word) (t : Tick) (raw : Code) (v : Int) (s : State) :
    Scheduled s (pumpShuntCode p t raw v s) := by
  unfold pumpShuntCode
  split
  · exact pumpCalibrationCode_scheduled p raw s
  · split
    · exact .still (by simp) (by simp)
    · exact .refl s

/-! ### The reconstructor -/

theorem fileOutcome_scheduled (o : ConversionOutcome) (s : State) : Scheduled s (fileOutcome o s) :=
  .still (by simp [fileOutcome]) (by simp)

theorem busHighCheck_scheduled (p : Word) (v : Nat) (s : State) : Scheduled s (busHighCheck p v s) := by
  have counted : ∀ n b, n ≤ 3 → Scheduled s (s.withRecon { s.recon with busHighRun := n, busHighActive := b }) :=
    fun _ _ hn => .of_recon fun h => { h with busHighRun := hn }
  unfold busHighCheck
  simp only
  split
  · split
    · exact (counted _ _ (runUp_le 3 _)).trans (joinNotice_scheduled _ _)
    · exact counted _ s.recon.busHighActive (runUp_le 3 _)
  · exact counted _ _ (Nat.zero_le _)

theorem overTempCheck_scheduled (first : Motor) (v : Nat) (s : State) : Scheduled s (overTempCheck first v s) := by
  have counted : ∀ n, n ≤ 3 → Scheduled s (s.withRecon { s.recon with overTempRun := n }) :=
    fun _ hn => .of_recon fun h => { h with overTempRun := hn }
  have pumpSafe : ∀ t, Scheduled t (pumpOverTemp t) := fun _ => .still (by simp) (by simp)
  unfold overTempCheck
  simp only
  split
  · split
    · exact (counted _ (runUp_le 3 _)).trans (bothMotors_scheduled drumOverTemp_scheduled pumpSafe first _)
    · exact counted _ (runUp_le 3 _)
  · exact counted _ (Nat.zero_le _)

theorem clampCurrent_inRange (i : Int) : CurrentInRange (clampCurrent i) := by
  unfold CurrentInRange clampCurrent
  omega

theorem closePeriod_scheduled (e : PeriodEntry) (s : State) : Scheduled s (closePeriod e s) := by
  have reported : ∀ fresh t, Scheduled t (reportPeriod e fresh t) := fun _ _ => .still (by simp) (by simp)
  have blinded : ∀ sixteenth t, Scheduled t (blindNotice e sixteenth t) := fun _ _ => .still (by simp) (by simp)
  unfold closePeriod
  split
  · refine Scheduled.trans (.of_recon fun h => ?_) (reported _ _)
    refine { h with currents := ⟨?_, ?_, ?_⟩, overRun := ?_, heldRun := Nat.zero_le _ }
    · exact clampCurrent_inRange _
    · exact clampCurrent_inRange _
    · exact clampCurrent_inRange _
    · simp only
      split
      · exact runUp_le 3 _
      · exact Nat.zero_le _
  · have held : Scheduled s (s.withRecon { s.recon with heldRun := runUp 16 s.recon.heldRun }) :=
      .of_recon fun h => { h with heldRun := runUp_le 16 _ }
    exact (held.trans (reported false _)).trans (blinded _ _)

theorem closeEnding_scheduled (e : Option PeriodEntry) (s : State) : Scheduled s (closeEnding e s) := by
  cases e with
  | none => exact .refl s
  | some e => exact closePeriod_scheduled e s

theorem closeHouse_scheduled (s : State) : Scheduled s (closeHouse s) := by
  unfold closeHouse
  split
  · exact .refl s
  · have given : Scheduled s (s.withRecon { s.recon with houseEntry := none }) := .of_recon fun h => { h with }
    exact given.trans (joinRecord_scheduled _ _)

theorem openHouse_scheduled (s : State) : Scheduled s (openHouse s) := by
  unfold openHouse
  split
  · exact .of_recon fun h => { h with }
  · exact .refl s

/-! ### The end of a conversion -/

/-- A corrected value is a code less an offset, so it stays below the codes' range (R56). -/
theorem correctedValue_le (m : Measurand) (raw offset : Code) : correctedValue m raw offset ≤ 4095 := by
  have hraw := raw.isLt
  have hoffset := offset.isLt
  cases m <;> simp only [correctedValue] <;> omega

theorem deliver_code_scheduled (first : Motor) (o : ConversionOutcome) {raw : Code} {value : Int}
    {start startStep : Tick} (kind : o.kind = .code raw value start startStep) (hv : value ≤ 4095) (s : State) :
    Scheduled s (deliver first o s) := by
  have counted : countLost o s = s := by simp [countLost, kind]
  simp only [deliver, counted]
  cases o.owner with
  | drum =>
    simp only [deliverDrum]
    split
    · exact (fileOutcome_scheduled o s).trans (drumCalibrationCode_scheduled _ _ _)
    · exact fileOutcome_scheduled o s
  | pump =>
    simp only [deliverPump]
    split
    · exact pumpShuntCode_scheduled _ _ _ _ s
    · exact .still (by simp) (by simp)
    · exact .still (by simp) (by simp)
    · exact .refl s
  | house =>
    simp only [deliverHouse, kind]
    split
    case h_1 code _ =>
      cases code
      refine ((fileOutcome_scheduled o s).trans (Scheduled.of_counters ?_ ?_ ?_ ?_)).trans (busHighCheck_scheduled _ _ _)
      · rfl
      · rfl
      · rfl
      · exact fun h => ⟨by simp only; omega, h.lostDrum, h.lostPump⟩
    case h_2 => exact (fileOutcome_scheduled o s).trans (overTempCheck_scheduled _ _ _)
    case h_3 => exact fileOutcome_scheduled o s

theorem finishConversion_scheduled (c : Conversion) (raw : Code) (first : Motor) (s : State) :
    Scheduled s (finishConversion c raw first s) := by
  have idle : Scheduled s (s.withSched { s.sched with converter := none }) :=
    .of_sched (.refl _) (fun _ _ => id) (fun _ c hc => by cases hc) fun h => ⟨h.busReading, h.lostDrum, h.lostPump⟩
  exact idle.trans (deliver_code_scheduled first _ rfl (correctedValue_le _ _ _) _)

end Sys2Proof.Machine
end

section
/-! PROOFS. That the period starts, the frames and every other command keep to `Scheduled`, what a tick does to the queue,
and the laws of the request queue and of the reconstructor's ranges through every step. -/

namespace Sys2Proof.Machine

/-! ### Requests of the sources (R64, R65, R67 to R69, R85) -/

theorem houseRequests_scheduled (s : State) : Scheduled s (houseRequests s) := by
  have made : ∀ (m : Measurand) (w span : Nat) (u t : State), u.drumCar = t.drumCar → u.time = t.time →
      (HalvesBelow t → span ≤ 8000) → Scheduled t (makeRequest (houseRequest m w span u) t) := by
    intro m w span u t _ time below
    exact makeRequest_scheduled (by simp only [houseRequest, time]) fun h => (below h).trans (by norm_num)
  have half : ∀ t : State, HalvesBelow t → t.drumCar.half / 2 ≤ 8000 := fun _ h => (Nat.div_le_self _ _).trans h.half
  unfold houseRequests
  simp only
  split
  · refine ((made _ _ _ _ _ rfl rfl (half s)).trans (made _ _ _ _ _ ?_ ?_ ?_)).trans (made _ _ _ _ _ ?_ ?_ ?_)
    case refine_3 | refine_6 => exact fun h => by simpa using h.half
    all_goals simp
  · exact made _ _ _ _ _ rfl rfl (half s)

theorem drumCalibrationRequest_scheduled (s : State) : Scheduled s (drumCalibrationRequest s) :=
  makeRequest_scheduled rfl fun h => h.half.trans (by norm_num)

theorem pumpCalibrationRequest_scheduled (s : State) : Scheduled s (pumpCalibrationRequest s) :=
  makeRequest_scheduled rfl fun h => h.pumpHalf.trans (by norm_num)

/-- A LOST outcome and a joining request leave the pump's on-time. -/
theorem makeRequest_onTime (r : Request) (s : State) : (makeRequest r s).comm.onTime = s.comm.onTime := by
  have lost : ∀ reason q, (afterLost reason q s).comm.onTime = s.comm.onTime := by
    intro reason q
    simp only [afterLost]
    split <;> rfl
  unfold makeRequest
  split
  · cases found : s.sched.queue.find? r.sameKey with
    | none =>
      by_cases room : s.sched.queue.length < 8
      · rw [joinRequest_of_room found room]
        rfl
      · rw [joinRequest_of_full found (not_lt.1 room)]
        exact lost _ r
    | some old =>
      rw [joinRequest_of_sameKey found]
      exact lost _ old
  · rfl

theorem pumpRequest_scheduled (m : Measurand) (w : Nat) {s : State} (h : s.comm.onTime ≤ s.pumpCar.half) :
    Scheduled s (pumpRequest m w s) := by
  refine makeRequest_scheduled rfl fun below => ?_
  have := below.pumpHalf
  omega

/-- With an on-time within the half-period, the pump's requests lie within the period (R67, R110). -/
theorem pumpRequests_scheduled {s : State} (h : s.comm.onTime ≤ s.pumpCar.half) : Scheduled s (pumpRequests s) := by
  unfold pumpRequests
  simp only
  split
  · have shunt := pumpRequest_scheduled .pumpShunt 1 h
    split
    · refine shunt.trans (pumpRequest_scheduled _ 2 ?_)
      rw [pumpRequest, makeRequest_onTime]
      simpa using h
    · exact shunt
  · exact .refl s

/-! ### Plans (R38, R40) -/

/-- The requests of a plan lie within its half-period (R36, R38). -/
theorem buildPlan_latest_le {period : Word} {half dt tsettle : Nat} {d : PerPhase Word} {q : RequestSpan}
    (h : (buildPlan period half dt tsettle d).request1 = some q ∨
      (buildPlan period half dt tsettle d).request2 = some q) : q.latest ≤ half := by
  have hp : buildPlan period half dt tsettle d = buildPlan period half dt tsettle d := rfl
  obtain ⟨-, -, window1, window2, request1, request2⟩ := plan_windows hp
  obtain ⟨hminmid, hmidmax, hmax⟩ := plan_times_ordered hp
  obtain ⟨-, shift2, -⟩ := plan_shifts_le hp
  have ends : ∀ {w : Option Span} {n : Nat}, (∀ p, w = some p → p.stop ≤ n) →
      windowRequest dt tsettle w = some q → q.latest ≤ n := by
    intro w n stop hq
    obtain ⟨p, hp, rfl⟩ := Option.map_eq_some_iff.1 hq
    exact (Nat.sub_le _ _).trans (stop p hp)
  rcases h with h | h
  · refine ends (fun p hp => ?_) (request1 ▸ h)
    rw [window1] at hp
    split at hp
    · cases hp
    · cases hp
      exact Nat.sub_le _ _
  · refine ends (fun p hp => ?_) (request2 ▸ h)
    rw [window2] at hp
    split at hp
    · cases hp
    · cases hp
      simp only
      omega

theorem preparePlan_scheduled (d : PerPhase Word) (s : State) : Scheduled s (preparePlan d s) where
  queue := fun h => h.of_sublist (.refl _) (fun _ _ => id) h.converting
  placed := fun h =>
    { ordered :=
        { sorted := h.ordered.sorted
          near := h.ordered.near
          planned := fun p q hp hq => by
            cases hp
            exact (buildPlan_latest_le hq).trans h.halves.latchedHalf }
      halves := ⟨h.halves.half, h.halves.pendingHalf, h.halves.latchedHalf, h.halves.pumpHalf,
        h.halves.pumpPendingHalf⟩ }
  range := fun h => { h with }

theorem takeEntry_scheduled (d : PerPhase Word) (s : State) : Scheduled s (takeEntry d s) := by
  have taken : Scheduled s (s.withPlanner { s.planner with slot := none, misses := 0, lastApplied := d }) :=
    .still (by simp) (by simp)
  exact taken.trans (preparePlan_scheduled d _)

theorem countMiss_scheduled (s : State) : Scheduled s (countMiss s) := by
  have counted : ∀ n, Scheduled s (s.withPlanner { s.planner with misses := n }) := fun _ => .still (by simp) (by simp)
  have noted : ∀ first t, Scheduled t (lateNotice first t) := fun first t => by
    unfold lateNotice
    split
    · exact joinNotice_scheduled _ t
    · exact .refl t
  unfold countMiss
  simp only
  split
  · exact ((counted _).trans (noted _ _)).trans (preparePlan_scheduled _ _)
  · exact ((counted _).trans (noted _ _)).trans (enterDrumSafe_scheduled _ _)

/-- The requests of the plan that comes into force lie near, where the queue was in order with the plan prepared (R40). -/
theorem planRequests_scheduled {s t : State} {p : Plan} (prepared : s.planner.prepared = some p)
    (h : Scheduled s t) : Scheduled s (planRequest 2 p.request2 (planRequest 1 p.request1 t)) := by
  have made : ∀ (w : Nat) (span : Option RequestSpan) (u : State), span = p.request1 ∨ span = p.request2 →
      (ConverterQueueKept u → ConverterQueueKept (planRequest w span u)) ∧
      (QueuePlaced s → QueuePlaced u → QueuePlaced (planRequest w span u)) ∧
      (ReconstructorInRange u → ReconstructorInRange (planRequest w span u)) := by
    intro w span u hspan
    cases span with
    | none => exact ⟨id, fun _ => id, id⟩
    | some q =>
      refine makeRequest_placed fun placed => Request.Near.of_later rfl ?_
      have := placed.ordered.planned p q prepared (hspan.imp Eq.symm Eq.symm)
      omega
  obtain ⟨queue1, placed1, range1⟩ := made 1 p.request1 t (.inl rfl)
  obtain ⟨queue2, placed2, range2⟩ := made 2 p.request2 (planRequest 1 p.request1 t) (.inr rfl)
  exact ⟨fun k => queue2 (queue1 (h.queue k)), fun k => placed2 k (placed1 k (h.placed k)),
    fun k => range2 (range1 (h.range k))⟩

theorem applyPlan_scheduled (s : State) : Scheduled s (applyPlan s) := by
  unfold applyPlan
  split
  · simp only
    split
    case h_1 => exact .still (by simp) (by simp)
    case h_2 p prepared =>
      exact planRequests_scheduled prepared (.still (by simp [openPeriodEntry]) (by simp))
  · exact .still (by simp) (by simp)

/-! ### The period starts -/

theorem takePermit_scheduled (sample : Bool) (first : Motor) (s : State) : Scheduled s (takePermit sample first s) := by
  have pumpLost : ∀ t, Scheduled t (pumpPermitLost t) := fun _ => .still (by simp) (by simp)
  have moved : ∀ (x : InputConditioner) (f g : Forcing),
      Scheduled s (applyForcing .pump f (applyForcing .drum g (s.withInput x))) :=
    fun _ _ _ => .still (by simp) (by simp)
  unfold takePermit permitChanged
  simp only
  split
  · exact .still (by simp) (by simp)
  · split
    · exact moved _ _ _
    · exact (moved _ _ _).trans (bothMotors_scheduled drumPermitLost_scheduled pumpLost first _)

theorem beginDrumPeriod_scheduled (s : State) : Scheduled s (beginDrumPeriod s) :=
  .of_carriers (by simp [beginDrumPeriod]) fun h =>
    ⟨h.latchedHalf, h.pendingHalf, h.latchedHalf, h.pumpHalf, h.pumpPendingHalf⟩

theorem takeStop_scheduled (s : State) : Scheduled s (takeStop s) := by
  unfold takeStop
  split
  · exact changeDrum_scheduled _ s
  · exact .refl s

theorem enterRun_scheduled (s : State) : Scheduled s (enterRun s) := by
  have zeroed : Scheduled s (s.withRecon { s.recon with lastFresh := ⟨0, 0, 0⟩ }) :=
    .of_recon fun h => { h with currents := by simp [CurrentInRange] }
  unfold enterRun
  split
  · split
    · exact zeroed.trans (changeDrum_scheduled _ _)
    · exact enterDrumSafe_scheduled _ s
  · exact .refl s

theorem calibrateDrum_scheduled (s : State) : Scheduled s (calibrateDrum s) := by
  have counted : ∀ c, Scheduled s (s.withDrum { s.drum with calib := c }) := fun _ => .still (by simp) (by simp)
  unfold calibrateDrum
  split
  · split
    · exact enterDrumSafe_scheduled _ s
    · exact (counted _).trans (drumCalibrationRequest_scheduled _)
  · exact .refl s

theorem drumPeriodStart_scheduled (permit : Bool) (o : PeriodOrder) (s0 : State) :
    Scheduled s0 (drumPeriodStart permit o s0) := by
  have turn : ∀ b s, Scheduled s (takeIf b (takePermit permit o.first) s) :=
    takeIf_scheduled (takePermit_scheduled permit o.first)
  have trip : ∀ b s, Scheduled s (takeIf b drumOvercurrent s) := takeIf_scheduled drumOvercurrent_scheduled
  have house : ∀ b s, Scheduled s (takeIf b houseRequests s) := takeIf_scheduled houseRequests_scheduled
  unfold drumPeriodStart
  extract_lets e s1 s2 s3 trips s4 s5 s6 s7 s8 s9 s10 s11 s12
  have h2 : Scheduled s0 s2 := (beginDrumPeriod_scheduled s0).trans (turn _ s1)
  have h4 : Scheduled s2 s4 :=
    ((takeIf_scheduled takeStop_scheduled _ s2).trans (closeEnding_scheduled e s3)).trans (closeHouse_scheduled _)
  have h6 : Scheduled s4 s6 := (turn _ s4).trans (trip _ s5)
  have h7 : Scheduled s6 s7 := (takeStop_scheduled s6).trans (enterRun_scheduled _)
  have h9 : Scheduled s7 s9 := ((openHouse_scheduled s7).trans (house _ _)).trans (turn _ s8)
  have h10 : Scheduled s9 s10 := ((applyPlan_scheduled s9).trans (house _ _)).trans (calibrateDrum_scheduled _)
  have h12 : Scheduled s10 s12 := (turn _ s10).trans (trip _ s11)
  exact (((h2.trans h4).trans (h6.trans h7)).trans (h9.trans h10)).trans (h12.trans (turn _ s12))

theorem calibratePump_scheduled (b : Bool) (s : State) : Scheduled s (calibratePump b s) := by
  have safe : ∀ t, Scheduled t (enterPumpSafe .offsetRange t) := fun _ => .still (by simp) (by simp)
  have counted : ∀ c, Scheduled s (s.withPump { s.pump with calib := c }) := fun _ => .still (by simp) (by simp)
  unfold calibratePump
  split
  · exact (takeIf_scheduled pumpCalibrationRequest_scheduled b s).trans (safe _)
  · exact (counted _).trans (pumpCalibrationRequest_scheduled _)

/-- The on-time that a pump period start fixes stays within its half-period (R110). -/
theorem periodOnTime_le (s : State) : periodOnTime s ≤ s.pumpCar.half := by
  unfold periodOnTime
  split
  · exact trimPulse_le _ (rawOnTime_le _ _)
  · exact Nat.zero_le _

theorem markPeriod_onTime (s : State) : (markPeriod s).comm.onTime = s.comm.onTime := by
  unfold markPeriod
  simp only
  split
  · split <;> rfl
  · rfl

theorem openPumpPeriod_scheduled (b : Bool) (s : State) : Scheduled s (openPumpPeriod b s) := by
  unfold openPumpPeriod
  extract_lets t
  have opened : Scheduled s t := .still (by simp [t]) (by simp [t])
  split
  · have onTime : t.comm.onTime ≤ t.pumpCar.half := by
      simp only [t, markPeriod_onTime]
      simpa [fixOnTime] using periodOnTime_le (countAlign (applyPendingDuty s))
    have commanded : Scheduled t (commandStep t) := .still (by simp) (by simp)
    exact opened.trans (commanded.trans (pumpRequests_scheduled (by simpa using onTime)))
  · split
    · exact opened.trans (calibratePump_scheduled b t)
    · exact opened

theorem beginPumpPeriod_scheduled (s : State) : Scheduled s (beginPumpPeriod s) :=
  .of_carriers (by simp) fun h => ⟨h.half, h.pendingHalf, h.latchedHalf, h.pumpPendingHalf, h.pumpPendingHalf⟩

/-! ### Frames -/

/-- The completion of a frame keeps what its body keeps. -/
theorem atCompletion_scheduled {f : FrameInProgress → State → State} (hf : ∀ fr s, Scheduled s (f fr s)) (s : State) :
    Scheduled s (atCompletion f s) := by
  have deselected : Scheduled s (s.withLink { s.link with selected := false }) := .still (by simp) (by simp)
  have begun : Scheduled s (beginFrame s) := .still (by simp [beginFrame]) (by simp [beginFrame])
  unfold atCompletion
  split
  · split
    · exact hf _ s
    · split
      · exact deselected
      · split
        · exact begun.trans (hf _ _)
        · exact .refl s
  · exact deselected

theorem decideFrame_scheduled {b : Body} (hb : ∀ s, Scheduled s (b s).1) (s : State) : Scheduled s (decideFrame b s) := by
  refine atCompletion_scheduled (fun fr t => ?_) s
  have sent : Scheduled t (endBreakRun (sentWhole fr t)) := .still (by simp [endBreakRun, sentWhole, endFrame])
    (by simp [endBreakRun, sentWhole, endFrame])
  exact (sent.trans (hb _)).trans (.still (by simp [runBody]) (by simp [runBody]))

theorem whenReady_scheduled {b : Body} (hb : ∀ s, Scheduled s (b s).1) (s : State) : Scheduled s (whenReady b s).1 := by
  unfold whenReady
  split
  · exact hb s
  · exact .refl s

theorem shortFrame_scheduled (bits : Nat) (s : State) : Scheduled s (shortFrame bits s) :=
  atCompletion_scheduled (fun _ _ => .still (by simp [endBreakRun, sentShort, endFrame])
    (by simp [endBreakRun, sentShort, endFrame])) s

theorem breakFrame_scheduled (first : Motor) (s : State) : Scheduled s (breakFrame first s) := by
  have pumpBreak : ∀ t, Scheduled t (pumpLinkBreak t) := fun _ => .still (by simp) (by simp)
  refine atCompletion_scheduled (fun fr t => ?_) s
  have counted : ∀ l, Scheduled t ((sentWhole fr t).withLink l) := fun _ =>
    .still (by simp [sentWhole, endFrame]) (by simp [sentWhole, endFrame])
  have broken : ∀ u, Scheduled u (linkBreak first u) := fun u =>
    Scheduled.trans (.still (by simp) (by simp))
      (bothMotors_scheduled drumLinkBreak_scheduled pumpBreak first (joinNotice .linkBreak (setBroke u)))
  have answered : ∀ u, Scheduled u (setResult .broke u) := fun _ => .still (by simp) (by simp)
  simp only
  split
  · exact ((counted _).trans (broken _)).trans (answered _)
  · exact (counted _).trans (answered _)

theorem checkErrorBody_scheduled (s : State) : Scheduled s (checkErrorBody s).1 := by
  unfold checkErrorBody
  simp only
  split <;> exact .still (by simp) (by simp)

/-- Every block at its values after reset keeps the three laws (R155). -/
theorem resetPart_scheduled (cause : ResetCause) (s : State) : Scheduled s (resetPart cause s) where
  queue _ := by constructor <;> simp [resetPart, State.reset]
  placed _ :=
    { ordered := by constructor <;> simp [resetPart, State.reset]
      halves := by constructor <;> simp [resetPart, State.reset] }
  range _ := by constructor <;> simp [resetPart, State.reset, CurrentInRange]

theorem joinResetNotice_scheduled (s : State) : Scheduled s (joinResetNotice s) := joinNotice_scheduled _ s

theorem clampTo_le {lo hi : Nat} (h : lo ≤ hi) (n : Nat) : clampTo lo hi n ≤ hi := max_le h (Nat.min_le_left _ _)

/-- A SETUP restarts the carriers with half-periods in range (R5, R6). -/
theorem setUp_scheduled (f : SetupFields) (s : State) : Scheduled s (setUp f s) :=
  have half : ∀ n, clampTo 1000 8000 n ≤ 8000 := clampTo_le (by norm_num)
  .of_carriers (by simp [setUp, restartCarriers, startTimebase]) fun _ => ⟨half _, half _, half _, half _, half _⟩

theorem setupBody_scheduled (f : SetupFields) (permit : Bool) (s : State) : Scheduled s (setupBody f permit s).1 := by
  unfold setupBody
  split
  · exact .refl s
  · exact (setUp_scheduled f s).trans
      (((takePermit_scheduled permit .drum (setUp f s)).trans (applyPlan_scheduled _)).trans
        (((openHouse_scheduled _).trans (houseRequests_scheduled _)).trans (openPumpPeriod_scheduled false _)))

theorem dutyBody_scheduled (d : PerPhase Word) (s : State) : Scheduled s (dutyBody d s).1 := by
  have filled : Scheduled s (fillSlot d s) := by
    rw [fillSlot_eq]
    exact .still (by simp) (by simp)
  unfold dutyBody
  split
  case h_1 | h_2 => exact filled
  all_goals exact .refl s

theorem pumpBody_scheduled (direction : BitVec 2) (duty : Word) (s : State) : Scheduled s (pumpBody direction duty s).1 := by
  have pended : Scheduled s (setPendingDuty duty s) := .still (by simp [setPendingDuty]) (by simp [setPendingDuty])
  unfold pumpBody
  split
  · unfold pumpDutyBody
    split
    case h_1 => exact .still (by simp [setPendingDuty]) (by simp [setPendingDuty])
    case h_2 => exact .refl s
    all_goals
      split
      · exact pended
      · exact .refl s
  · exact .refl s

theorem rateHalf_le (field : Word) {pending : Nat} (h : pending ≤ 8000) : rateHalf field pending ≤ 8000 := by
  unfold rateHalf
  split
  · exact h
  · exact clampTo_le (by norm_num) _

theorem rateBody_scheduled (h hp : Word) (s : State) : Scheduled s (rateBody h hp s).1 :=
  .of_carriers (by simp [rateBody]) fun k =>
    ⟨k.half, rateHalf_le h k.pendingHalf, k.latchedHalf, k.pumpHalf, rateHalf_le hp k.pumpPendingHalf⟩

theorem measurandOf_index (m : Measurand) : measurandOf (BitVec.ofNat 4 m.index) = some m := by cases m <;> rfl

/-- Each measurand has a row of its own (section 10.1). -/
theorem Measurand.index_injective {m n : Measurand} (h : (m.index : Nat) = n.index) : m = n := by
  have same := measurandOf_index m
  rw [h, measurandOf_index n] at same
  exact (Option.some.inj same).symm

/-- The row of another measurand is not written. -/
theorem assigned_set_other {m n : Measurand} (h : n ≠ m) (row : InputRow) (s : State) :
    assigned n (s.withSched { s.sched with table := s.sched.table.set m.index row }) = assigned n s := by
  have index : (m.index : Nat) ≠ n.index := fun same => h (Measurand.index_injective same).symm
  simp [assigned, inputRow, index]

theorem assigned_set_self (m : Measurand) (row : InputRow) (s : State) :
    assigned m (s.withSched { s.sched with table := s.sched.table.set m.index row }) = row.input.isSome := by
  simp [assigned, inputRow]

/-- A row with input NONE takes the requests of its measurand out of the queue first (R62). -/
theorem writeInputRow_scheduled (m : Measurand) (row : InputRow) (s : State) : Scheduled s (writeInputRow m row s) := by
  unfold writeInputRow
  simp only
  split
  case isTrue input =>
    refine .of_sched (.refl _) (fun q _ held => ?_) (fun h => h.converting)
      fun h => ⟨h.busReading, h.lostDrum, h.lostPump⟩
    by_cases hq : q.measurand = m
    · rw [hq, assigned_set_self]
      exact input
    · rwa [assigned_set_other hq]
  case isFalse =>
    refine Scheduled.trans ?_ (unassigned_scheduled _ _)
    refine Scheduled.of_sched (s := s) List.filter_sublist (fun q hq held => ?_) (fun h => h.converting)
      fun h => ⟨h.busReading, h.lostDrum, h.lostPump⟩
    have other : q.measurand ≠ m := by simpa using (List.mem_filter.1 hq).2
    exact (assigned_set_other other row s).trans held

theorem tableInputBody_scheduled (row : BitVec 4) (source : BitVec 2) (input : BitVec 4) (offset trip : Word)
    (s : State) : Scheduled s (tableInputBody row source input offset trip s).1 := by
  unfold tableInputBody
  split
  · split
    · exact writeInputRow_scheduled _ _ s
    · exact .refl s
  · exact .refl s

/-! The tables of the pump are not read by the converter (R107, R130). -/

theorem tableCommutationBody_scheduled (row : BitVec 4) (high low floating polarity : BitVec 2) (s : State) :
    Scheduled s (tableCommutationBody row high low floating polarity s).1 := by
  unfold tableCommutationBody
  repeat' split
  case h_1.isTrue => exact .still (by simp) (by simp)
  all_goals exact .refl s

theorem tableProfileBody_scheduled (f : ProfileFields) (s : State) : Scheduled s (tableProfileBody f s).1 := by
  unfold tableProfileBody
  repeat' split
  case h_1 => exact .still (by simp) (by simp)
  all_goals exact .refl s

theorem tableRampBody_scheduled (row : BitVec 4) (interval : BitVec 24) (repeats : BitVec 8) (duty : Word) (s : State) :
    Scheduled s (tableRampBody row interval repeats duty s).1 := by
  unfold tableRampBody
  repeat' split
  case h_1 => exact .still (by simp) (by simp)
  all_goals exact .refl s

theorem tableRampLengthBody_scheduled (length : BitVec 5) (s : State) :
    Scheduled s (tableRampLengthBody length s).1 := by
  unfold tableRampLengthBody
  split
  · exact .still (by simp) (by simp)
  · exact .refl s

theorem answerQuery_scheduled (page : State → StatusPage) {clearing : State → State}
    (h : ∀ s, Scheduled s (clearing s)) (s : State) : Scheduled s (answerQuery (page s) clearing s).1 :=
  (h s).trans (joinRecord_scheduled _ _)

theorem clearLostDrum_scheduled (s : State) : Scheduled s (clearLostDrum s) :=
  .of_counters rfl rfl rfl fun h => ⟨h.busReading, Nat.zero_le _, h.lostPump⟩

theorem clearLostPump_scheduled (s : State) : Scheduled s (clearLostPump s) :=
  .of_counters rfl rfl rfl fun h => ⟨h.busReading, h.lostDrum, Nat.zero_le _⟩

theorem queryTableBody_scheduled (id row : BitVec 4) (s : State) : Scheduled s (queryTableBody id row s).1 := by
  unfold queryTableBody
  split
  · exact joinRecord_scheduled _ s
  · exact .refl s

theorem startDrumBody_scheduled (s : State) : Scheduled s (startDrumBody s).1 := by
  have started : ∀ x, Scheduled s ((startDrumCounters s).withDrum x) := fun _ =>
    Scheduled.trans (.of_recon (x := { s.recon with overRun := 0, heldRun := 0 })
      fun h => { h with overRun := Nat.zero_le _, heldRun := Nat.zero_le _ })
      (.still (by simp [startDrumCounters]) (by simp [startDrumCounters]))
  unfold startDrumBody
  repeat' split
  case isFalse.isFalse.isFalse.isFalse =>
    obtain ⟨st, c, -, eq⟩ := acceptStartDrum_eq s
    simp only [eq]
    exact (started _).trans (changeDrum_scheduled st _)
  all_goals exact .refl s

theorem acceptStartPump_scheduled (s : State) : Scheduled s (acceptStartPump s) := by
  unfold acceptStartPump startPumpCounters
  simp only
  split <;> exact .still (by simp) (by simp)

theorem startPumpBody_scheduled (s : State) : Scheduled s (startPumpBody s).1 := by
  unfold startPumpBody
  repeat' split
  case isFalse.isFalse.isFalse.isFalse.isFalse => exact acceptStartPump_scheduled s
  all_goals exact .refl s

theorem setStopPending_scheduled (k : StopKind) (s : State) : Scheduled s (setStopPending k s) :=
  .still (by simp [setStopPending]) (by simp [setStopPending])

theorem stopCoastDrumBody_scheduled (s : State) : Scheduled s (stopCoastDrumBody s).1 := by
  unfold stopCoastDrumBody
  split
  case h_1 | h_6 => exact .refl s
  case h_4 => exact setStopPending_scheduled _ s
  all_goals exact changeDrum_scheduled _ s

theorem stopBrakeDrumBody_scheduled (s : State) : Scheduled s (stopBrakeDrumBody s).1 := by
  unfold stopBrakeDrumBody
  split
  case h_1 | h_5 | h_6 => exact .refl s
  case h_4 => exact setStopPending_scheduled _ s
  all_goals exact changeDrum_scheduled _ s

theorem stopCoastPumpBody_scheduled (s : State) : Scheduled s (stopCoastPumpBody s).1 := by
  unfold stopCoastPumpBody
  split
  case h_1 | h_6 => exact .refl s
  all_goals exact .still (by simp) (by simp)

theorem clearDrumBody_scheduled (s : State) : Scheduled s (clearDrumBody s).1 := by
  have emptied : Scheduled s (s.withDrum { s.drum with cause := none }) := .still (by simp) (by simp)
  unfold clearDrumBody
  repeat' split
  case isFalse.isFalse.isFalse => exact emptied.trans (changeDrum_scheduled _ _)
  all_goals exact .refl s

theorem clearPumpBody_scheduled (s : State) : Scheduled s (clearPumpBody s).1 := by
  unfold clearPumpBody
  repeat' split
  case isFalse.isFalse.isFalse => exact .still (by simp) (by simp)
  all_goals exact .refl s

theorem dryBody_scheduled (m : Motor) (b : Bool) (s : State) : Scheduled s (dryBody m b s).1 := by
  unfold dryBody
  split
  · cases m <;> exact .still (by simp [setDry]) (by simp [setDry])
  · exact .refl s

theorem setReport_scheduled (m : Motor) (b : Bool) (s : State) : Scheduled s (setReport m b s) := by
  cases m <;> exact .still (by simp [setReport]) (by simp [setReport])

/-! ### Events -/

theorem faultLineFall_scheduled (m : Motor) (s : State) : Scheduled s (gateFault m (moveFaultLine m true s)) := by
  cases m with
  | drum =>
    have moved : Scheduled s (moveFaultLine .drum true s) := .still (by simp [moveFaultLine]) (by simp [moveFaultLine])
    exact moved.trans (drumGateFault_scheduled _)
  | pump => exact .still (by simp [gateFault, moveFaultLine]) (by simp [gateFault, moveFaultLine])

theorem moveFaultLine_scheduled (m : Motor) (active : Bool) (s : State) : Scheduled s (moveFaultLine m active s) := by
  cases m <;> exact .still (by simp [moveFaultLine]) (by simp [moveFaultLine])

theorem latchHalf_scheduled (s : State) : Scheduled s (latchHalf s) :=
  .of_carriers (by simp [latchHalf]) fun h => ⟨h.half, h.pendingHalf, h.pendingHalf, h.pumpHalf, h.pumpPendingHalf⟩

theorem planAtPoint_scheduled (s : State) : Scheduled s (planAtPoint s) := by
  unfold planAtPoint
  split
  case h_1 | h_2 => exact takeEntry_scheduled _ s
  case h_3 => exact countMiss_scheduled s
  case h_4 => exact .refl s

theorem pumpPeak_scheduled (s : State) : Scheduled s (alignAtPeak (takePeak s)) := by
  have taken : Scheduled s (takePeak s) := .of_carriers (by simp [takePeak]) fun h =>
    ⟨h.half, h.pendingHalf, h.latchedHalf, h.pumpHalf, h.pumpPendingHalf⟩
  unfold alignAtPeak
  split
  · exact taken.trans (.still (by simp) (by simp))
  · exact taken

theorem frameBegin_scheduled (s : State) :
    Scheduled s
      (if s.link.selected then s
       else if s.link.resetN then beginFrame s
       else s.withLink { s.link with selected := true }) := by
  split
  · exact .refl s
  · split <;> exact .still (by simp [beginFrame]) (by simp [beginFrame])

/-! ### Every command, and every step -/

theorem exec_scheduled {c : Instr} {s t : State} (he : exec c s = .next t) : Scheduled s t := by
  have frame : ∀ {b : Body}, (∀ s, Scheduled s (b s).1) → Scheduled s (decideFrame b s) := fun hb =>
    decideFrame_scheduled hb s
  have ready : ∀ {b : Body}, (∀ s, Scheduled s (b s).1) → Scheduled s (decideFrame (whenReady b) s) := fun hb =>
    frame (whenReady_scheduled hb)
  have event : ∀ {b : Bool} {u : State}, Scheduled s u → Scheduled s (if b then u else s) := by
    intro b u hu
    cases b with
    | true => exact hu
    | false => exact .refl s
  have goes : ∃ u, exec c s = .next u ∧ Scheduled s u := by
    cases c with
    | powerReset =>
      refine ⟨_, rfl, ?_⟩
      have fresh := resetPart_scheduled .power s
      split
      · exact fresh.trans (joinResetNotice_scheduled _)
      · exact fresh
    | pinReset => exact ⟨_, rfl, (resetPart_scheduled .pin s).trans (.still (by simp) (by simp))⟩
    | pinResetRelease =>
      refine ⟨_, rfl, ?_⟩
      split
      · exact .refl s
      · exact Scheduled.trans (.still (by simp) (by simp)) (joinResetNotice_scheduled (s.withLink _))
    | frameBegin => exact ⟨_, rfl, frameBegin_scheduled s⟩
    | shortFrame bits => exact ⟨_, rfl, shortFrame_scheduled bits s⟩
    | breakFrame first => exact ⟨_, rfl, breakFrame_scheduled first s⟩
    | checkError => exact ⟨_, rfl, frame checkErrorBody_scheduled⟩
    | unknownKind => exact ⟨_, rfl, frame .refl⟩
    | fill => exact ⟨_, rfl, frame .refl⟩
    | setup f permit => exact ⟨_, rfl, frame (setupBody_scheduled f permit)⟩
    | duty d => exact ⟨_, rfl, ready (dutyBody_scheduled d)⟩
    | pump direction duty => exact ⟨_, rfl, ready (pumpBody_scheduled direction duty)⟩
    | rate half pumpHalf => exact ⟨_, rfl, ready (rateBody_scheduled half pumpHalf)⟩
    | tableInput row source input offset trip =>
      exact ⟨_, rfl, ready (tableInputBody_scheduled row source input offset trip)⟩
    | tableCommutation row high low floating polarity =>
      exact ⟨_, rfl, ready (tableCommutationBody_scheduled row high low floating polarity)⟩
    | tableProfile f => exact ⟨_, rfl, ready (tableProfileBody_scheduled f)⟩
    | tableRamp row interval repeats duty =>
      exact ⟨_, rfl, ready (tableRampBody_scheduled row interval repeats duty)⟩
    | tableRampLength length => exact ⟨_, rfl, ready (tableRampLengthBody_scheduled length)⟩
    | queryLink clear =>
      exact ⟨_, rfl, frame (answerQuery_scheduled _ (takeIf_scheduled (fun _ => .still (by simp [clearLinkCounters])
        (by simp [clearLinkCounters])) clear))⟩
    | queryDrum clear =>
      exact ⟨_, rfl, frame (answerQuery_scheduled _ (takeIf_scheduled clearLostDrum_scheduled clear))⟩
    | queryDrumSnap =>
      exact ⟨_, rfl, frame (answerQuery_scheduled _ fun _ => .still (by simp [emptyDrumSnapshot])
        (by simp [emptyDrumSnapshot]))⟩
    | queryPump clear =>
      exact ⟨_, rfl, frame (answerQuery_scheduled _ (takeIf_scheduled clearLostPump_scheduled clear))⟩
    | queryPumpRingA => exact ⟨_, rfl, frame (answerQuery_scheduled _ .refl)⟩
    | queryPumpRingB => exact ⟨_, rfl, frame (answerQuery_scheduled _ .refl)⟩
    | queryPumpSnap =>
      exact ⟨_, rfl, frame (answerQuery_scheduled _ fun _ => .still (by simp [emptyPumpSnapshot])
        (by simp [emptyPumpSnapshot]))⟩
    | queryTable clear id row => exact ⟨_, rfl, frame (queryTableBody_scheduled id row)⟩
    | startDrum => exact ⟨_, rfl, ready startDrumBody_scheduled⟩
    | startPump => exact ⟨_, rfl, ready startPumpBody_scheduled⟩
    | stopCoastDrum => exact ⟨_, rfl, ready stopCoastDrumBody_scheduled⟩
    | stopBrakeDrum => exact ⟨_, rfl, ready stopBrakeDrumBody_scheduled⟩
    | stopCoastPump => exact ⟨_, rfl, ready stopCoastPumpBody_scheduled⟩
    | stopBrakePump => exact ⟨_, rfl, ready .refl⟩
    | clearDrum => exact ⟨_, rfl, ready clearDrumBody_scheduled⟩
    | clearPump => exact ⟨_, rfl, ready clearPumpBody_scheduled⟩
    | dryOn m => exact ⟨_, rfl, ready (dryBody_scheduled m true)⟩
    | dryOff m => exact ⟨_, rfl, ready (dryBody_scheduled m false)⟩
    | reportOn m => exact ⟨_, rfl, ready (setReport_scheduled m true)⟩
    | reportOff m => exact ⟨_, rfl, ready (setReport_scheduled m false)⟩
    | clearFlags =>
      exact ⟨_, rfl, ready fun _ => .still (by simp [State.withFlags]) (by simp [State.withFlags])⟩
    | reset =>
      exact ⟨_, rfl, ready fun u => (resetPart_scheduled .command u).trans (joinResetNotice_scheduled _)⟩
    | faultLineFall m =>
      refine ⟨_, rfl, ?_⟩
      split
      · exact .refl s
      · exact faultLineFall_scheduled m s
    | faultLineRise m => exact ⟨_, rfl, event (moveFaultLine_scheduled m false s)⟩
    | enableTimeReached m x => exact ⟨_, rfl, event (.still (by simp) (by simp))⟩
    | drumPeriodStart permit o => exact ⟨_, rfl, event (drumPeriodStart_scheduled permit o s)⟩
    | planPoint => exact ⟨_, rfl, event ((latchHalf_scheduled s).trans (planAtPoint_scheduled _))⟩
    | planEdge x =>
      refine ⟨_, rfl, ?_⟩
      split
      · exact .still (by simp) (by simp)
      · exact .refl s
    | pumpPeriodStart b =>
      exact ⟨_, rfl, event ((beginPumpPeriod_scheduled s).trans (openPumpPeriod_scheduled b _))⟩
    | pumpPeak => exact ⟨_, rfl, event (pumpPeak_scheduled s)⟩
    | pumpSpanEdge => exact ⟨_, rfl, event (.still (by simp) (by simp))⟩
    | conversionStart =>
      refine ⟨_, rfl, ?_⟩
      split
      case h_1 r choice =>
        refine startConversion_scheduled ?_
        unfold arbiterChoice at choice
        split at choice
        · cases choice
        · exact List.mem_of_find?_eq_some choice
      case h_2 => exact .refl s
    | conversionDone code first =>
      refine ⟨_, rfl, ?_⟩
      split
      · exact finishConversion_scheduled _ code first s
      · exact .refl s
    | requestExpiry =>
      refine ⟨_, rfl, ?_⟩
      split
      · exact expire_scheduled _ s
      · exact .refl s
    | dueCommutation => exact ⟨_, rfl, event (.still (by simp) (by simp))⟩
    | zcTimeout =>
      refine ⟨_, rfl, ?_⟩
      split
      · exact .still (by simp) (by simp)
      · exact .refl s
    | rampCommutation => exact ⟨_, rfl, event (.still (by simp) (by simp))⟩
    | controlUnknownCode => exact ⟨_, rfl, ready .refl⟩
    | tableUnknownId => exact ⟨_, rfl, ready .refl⟩
    | queryUnknownPage => exact ⟨_, rfl, frame .refl⟩
  obtain ⟨u, hu, scheduled⟩ := goes
  rw [hu] at he
  cases he
  exact scheduled

/-- An expiry is among the due events, eleven others standing behind it in their list (R54; log 2). -/
theorem requestExpiry_mem_dueEvents {s : State} {r : Request} (h : expiredRequest s = some r) :
    .requestExpiry ∈ dueEvents s := by
  unfold dueEvents
  iterate 11 apply List.mem_append_left
  apply List.mem_append_right
  rw [h]
  exact List.mem_singleton.2 rfl

/-- With nothing due no queued request has passed its latest start (R54; log 1). -/
theorem expiredRequest_of_idle {s : State} (h : dueEvent s = none) : expiredRequest s = none := by
  rw [dueEvent, List.head?_eq_none_iff] at h
  cases expired : expiredRequest s with
  | none => rfl
  | some r =>
    have due := requestExpiry_mem_dueEvents expired
    rw [h] at due
    cases due

/-- A tick passes over no request that is about to expire, so those that wait come nearer by one. -/
theorem tick_scheduled {s : State} (h : expiredRequest s = none) : Scheduled s (tick s) := by
  unfold tick
  split
  case isFalse => exact .refl s
  case isTrue =>
    refine ⟨fun k => k.of_sublist (.refl _) (fun _ _ => id) k.converting, fun k => ⟨⟨k.ordered.sorted, fun r hr => ?_,
      k.ordered.planned⟩, k.halves.half, k.halves.pendingHalf, k.halves.latchedHalf, k.halves.pumpHalf,
      k.halves.pumpPendingHalf⟩, fun k => { k with }⟩
    have near := k.ordered.near r hr
    have waits : passed r.latest s.time.tick = false := by simpa using List.find?_eq_none.1 h r hr
    have ahead : r.latest + 1 - s.time.tick ≠ 0 := by
      intro zero
      have last : s.time.tick = r.latest + 1 := (sub_eq_zero.1 zero).symm
      rw [last] at waits
      simp [passed, reached, distance] at waits
    change (r.latest + 1 - (s.time.tick + 1)).toNat ≤ 16001
    bv_omega

theorem passIdle_scheduled {s : State} (h : expiredRequest s = none) : Scheduled s (passIdle s) := by
  have drawn : Scheduled s (drawFree s) := .still (by simp [drawFree]) (by simp [drawFree])
  unfold passIdle
  split
  · exact tick_scheduled h
  · split
    · exact drawn.trans (.still (by simp) (by simp))
    · exact drawn.trans (tick_scheduled h)

theorem step_scheduled {s t : State} (hs : step s = .next t) : Scheduled s t := by
  unfold step idle at hs
  split at hs
  · exact Scheduled.trans (.still (by simp) (by simp)) (exec_scheduled hs)
  · split at hs
    · exact Scheduled.trans (.still (by simp [drawFree]) (by simp [drawFree])) (exec_scheduled hs)
    case h_2 idle =>
      cases hs
      exact passIdle_scheduled (expiredRequest_of_idle idle)

/-- Settles O21: every step is `Scheduled`, and a joining request by its three cases. -/
theorem converterQueueStaysKept : Obligations.ConverterQueueStaysKept := by
  unfold Obligations.ConverterQueueStaysKept
  refine ⟨fun s t h hs => (step_scheduled hs).queue h, fun s t carriers ordered hs => ?_, joinRequest_by_key_and_room⟩
  have halves : HalvesBelow s :=
    ⟨carriers.half.2, carriers.pendingHalf.2, carriers.latchedHalf.2, carriers.pumpHalf.2, carriers.pumpPendingHalf.2⟩
  exact ((step_scheduled hs).placed ⟨ordered, halves⟩).ordered

/-- Settles O27: every step is `Scheduled`. -/
theorem reconstructorStaysInRange : Obligations.ReconstructorStaysInRange := by
  unfold Obligations.ReconstructorStaysInRange
  exact fun s t h hs => (step_scheduled hs).range h

end Sys2Proof.Machine
end

section
/-! PROOFS. The arbiter (R45, R46, R52), expiry (R54, R55), and the arithmetic of corrected values and rebuilt currents
(R56, R74). -/

namespace Sys2Proof.Machine

/-! ### The first request of the queue that qualifies -/

/-- The first request that qualifies is found, and its erasure leaves the others as they stood. -/
theorem first_of_queue {queue ahead behind : List Request} {r : Request} {p : Request → Bool}
    (split : queue = ahead ++ r :: behind) (first : ∀ q ∈ ahead, p q = false) (hr : p r = true) :
    queue.find? p = some r ∧ queue.erase r = ahead ++ behind := by
  have other : r ∉ ahead := fun hmem => by simp [first r hmem] at hr
  have none : ahead.find? p = none := List.find?_eq_none.2 fun q hq => by simp [first q hq]
  rw [split]
  refine ⟨?_, ?_⟩
  · rw [List.find?_append, none, Option.none_or, List.find?_cons_of_pos hr]
  · rw [List.erase_append_right _ other, List.erase_cons_head]

/-- Settles O23: the request is the arbiter's choice. -/
theorem arbiterStartsFirstEligible : Obligations.ArbiterStartsFirstEligible := by
  unfold Obligations.ArbiterStartsFirstEligible
  intro s ahead behind r idle split drumStart pumpStart first earliest latest
  have eligible : r.eligible s.time.tick = true := by simp [Request.eligible, earliest, latest]
  have waiting : ∀ q ∈ ahead, q.eligible s.time.tick = false := fun q hq => by
    rcases first q hq with early | expired
    · simp [Request.eligible, early]
    · simp [Request.eligible, expired]
  obtain ⟨found, left⟩ := first_of_queue split waiting eligible
  have choice : arbiterChoice s = some r := by simpa [arbiterChoice, idle, drumStart, pumpStart] using found
  change execConversionStart s = _
  simp only [execConversionStart, choice, startConversion, left]
  rfl

/-- Settles O25: the request is the one that expires, and its LOST outcome is `afterLost`. -/
theorem expiredRequestIsLost : Obligations.ExpiredRequestIsLost := by
  unfold Obligations.ExpiredRequestIsLost
  intro s ahead behind r split first passed window house
  obtain ⟨found, left⟩ := first_of_queue split first passed
  have expired : expiredRequest s = some r := found
  change execRequestExpiry s = _
  simp only [execRequestExpiry, expired, expire, left, deliverLost_eq, afterLost_withQueue, examines_iff]
  simp [afterLost, State.withQueue, State.withSched, window, house]

/-! ### Corrected values (R56) and rebuilt currents (R74) -/

theorem correctedValue_of_shunt {m : Measurand} (h : m = .drumShunt ∨ m = .pumpShunt) (raw offset : Code) :
    correctedValue m raw offset = (raw.toNat : Int) - offset.toNat := by
  rcases h with rfl | rfl <;> rfl

theorem correctedValue_of_other {m : Measurand}
    (h : m = .bus ∨ m = .pumpVa ∨ m = .pumpVb ∨ m = .pumpVc ∨ m = .temp ∨ m = .aux) (raw offset : Code) :
    correctedValue m raw offset = ((raw.toNat - offset.toNat : Nat) : Int) := by
  rcases h with rfl | rfl | rfl | rfl | rfl | rfl <;> rfl

theorem Ranking.place_sum (r : Ranking) (hi mid lo : Int) :
    (r.place hi mid lo).a + (r.place hi mid lo).b + (r.place hi mid lo).c = hi + mid + lo := by
  cases r <;> simp only [Ranking.place] <;> omega

theorem clampCurrent_eq_self {i : Int} (h : CurrentInRange i) : clampCurrent i = i := by
  unfold CurrentInRange at h
  unfold clampCurrent
  omega

/-- Settles O26: the codes lie in 0..4095, and each phase holds one of the ranking's three places. -/
theorem samplesGiveCurrents : Obligations.SamplesGiveCurrents := by
  unfold Obligations.SamplesGiveCurrents
  refine ⟨fun m raw offset => ⟨fun shunt => ?_, fun other => ?_⟩, ?_⟩
  · rw [correctedValue_of_shunt shunt]
    have := raw.isLt
    have := offset.isLt
    omega
  · rw [correctedValue_of_other other]
    have := raw.isLt
    omega
  · intro r raw1 raw2 offset s1 s2 i
    have codes1 := raw1.isLt
    have codes2 := raw2.isLt
    have offsets := offset.isLt
    have hs1 : s1 = (raw1.toNat : Int) - offset.toNat := correctedValue_of_shunt (.inl rfl) raw1 offset
    have hs2 : s2 = (raw2.toNat : Int) - offset.toNat := correctedValue_of_shunt (.inl rfl) raw2 offset
    have hi : i = r.place s1 (s2 - s1) (-s2) := rfl
    have max : i.get r.maxPhase = s1 := by rw [hi, Ranking.place_get_max]
    have mid : i.get r.midPhase = s2 - s1 := by rw [hi, Ranking.place_get_mid]
    have min : i.get r.minPhase = -s2 := by rw [hi, Ranking.place_get_min]
    have range : ∀ x, CurrentInRange (i.get x) := fun x => by
      unfold CurrentInRange
      rcases r.names_each_phase x with hx | hx | hx
      · rw [hx, max]
        omega
      · rw [hx, mid]
        omega
      · rw [hx, min]
        omega
    refine ⟨max, mid, min, fun x => ⟨range x, clampCurrent_eq_self (range x)⟩, ?_⟩
    rw [hi, Ranking.place_sum]
    omega

end Sys2Proof.Machine
end

section
/-! PROOFS. The end of a conversion (R45, R55 to R57): what its code does at the blocks of its owner, and the checks of a
BUS and of a TEMP code (R79, R80). -/

namespace Sys2Proof.Machine

/-! ### The delivery of a code -/

/-- The state with the converter idle, on which the code of a conversion is delivered (R45). -/
def idled (s : State) : State := s.withSched { s.sched with converter := none }

/-- A conversion that is over is the one that CONVERSION_DONE ends (R45). -/
theorem exec_conversionDone {s : State} {c : Conversion} (code : Code) (first : Motor)
    (busy : s.sched.converter = some c) (ended : reached (c.start + 64) s.time.tick = true) :
    exec (.conversionDone code first) s = .next (deliver first (codeOutcome c code s) (idled s)) := by
  have due : conversionDue s = some c := by
    simp only [conversionDue, busy]
    exact if_pos ended
  change execConversionDone code first s = _
  simp only [execConversionDone, due]
  rfl

/-- A code is not counted, and goes to its owner's blocks (R57, R59). -/
theorem deliver_code (first : Motor) (c : Conversion) (code : Code) (s u : State) :
    deliver first (codeOutcome c code s) u =
      match c.request.owner with
      | .drum => deliverDrum (codeOutcome c code s) u
      | .pump => deliverPump (codeOutcome c code s) u
      | .house => deliverHouse first (codeOutcome c code s) u := by
  have counted : countLost (codeOutcome c code s) u = u := by simp [countLost, codeOutcome]
  rw [deliver, counted]
  rfl

/-- At the scheduler nothing but the table has changed. -/
def SameButTable (x y : Scheduler) : Prop :=
  y.converter = x.converter ∧ y.queue = x.queue ∧ y.busReading = x.busReading ∧ y.lostDrum = x.lostDrum ∧
  y.lostPump = x.lostPump

theorem SameButTable.refl (x : Scheduler) : SameButTable x x := ⟨rfl, rfl, rfl, rfl, rfl⟩

/-- A calibration writes the table alone at the scheduler (R63). -/
theorem writeOffset_sameButTable (m : Measurand) (offset : Nat) (s : State) :
    SameButTable s.sched (writeOffset m offset s).sched := by
  unfold writeOffset
  split <;> exact .refl _

theorem drumCalibrationCode_sameButTable (p : Word) (raw : Code) (s : State) :
    SameButTable s.sched (drumCalibrationCode p raw s).sched := by
  unfold drumCalibrationCode endDrumCalibration
  simp only
  split
  · split
    · split
      · simpa using writeOffset_sameButTable .drumShunt _ (s.withDrum _)
      · simpa using .refl _
    · exact .refl _
  · exact .refl _

theorem pumpShuntCode_sameButTable (p : Word) (t : Tick) (raw : Code) (v : Int) (s : State) :
    SameButTable s.sched (pumpShuntCode p t raw v s).sched := by
  unfold pumpShuntCode pumpCalibrationCode endPumpCalibration
  simp only
  split
  · split
    · split
      · split
        · split <;> simpa using writeOffset_sameButTable .pumpShunt _ (s.withPump _)
        · simpa using .refl _
      · exact .refl _
    · exact .refl _
  · split
    · simpa using .refl _
    · exact .refl _

theorem deliverDrum_sameButTable (o : ConversionOutcome) (s : State) :
    SameButTable s.sched (deliverDrum o s).sched := by
  simp only [deliverDrum]
  split
  · simpa using drumCalibrationCode_sameButTable _ _ (fileOutcome o s)
  · exact .refl _

theorem deliverPump_sameButTable (o : ConversionOutcome) (s : State) :
    SameButTable s.sched (deliverPump o s).sched := by
  simp only [deliverPump]
  split
  · exact pumpShuntCode_sameButTable _ _ _ _ s
  all_goals simpa using .refl _

/-- A HOUSE code of window 1 is the latest bus reading (R66). -/
theorem deliverHouse_sched (first : Motor) (o : ConversionOutcome) {raw : Code} {value : Int} {start startStep : Tick}
    (kind : o.kind = .code raw value start startStep) (s : State) :
    (deliverHouse first o s).sched =
      { s.sched with busReading := if o.window = 1 then value.toNat else s.sched.busReading } := by
  simp only [deliverHouse, kind]
  split
  case h_1 code window =>
    cases code
    simp [window]
  case h_2 code window => simp [window]
  case h_3 h _ =>
    have window : o.window ≠ 1 := fun window => h raw value start startStep rfl window
    simp [window]

/-- In a state without calibration a DRUM code is filed alone (R57, R86). -/
theorem deliverDrum_of_ne_offset (o : ConversionOutcome) {s : State} (h : s.drum.state ≠ .offset) :
    deliverDrum o s = fileOutcome o s := by
  simp only [deliverDrum]
  split
  · simp [drumCalibrationCode, h]
  · rfl

/-! ### The check of a BUS code (R79) -/

/-- The bus-high run after a code (R79). -/
def nextBusRun (v : Nat) (s : State) : Nat :=
  if aboveTrip v (inputRow .bus s).trip then min (s.recon.busHighRun + 1) 3 else 0

theorem busHighCheck_recon (p : Word) (v : Nat) (s : State) :
    (busHighCheck p v s).recon =
      { s.recon with
        busHighRun := nextBusRun v s
        busHighActive := aboveTrip v (inputRow .bus s).trip && (decide (nextBusRun v s = 3) || s.recon.busHighActive) } := by
  unfold busHighCheck nextBusRun
  cases above : aboveTrip v (inputRow .bus s).trip with
  | false => simp
  | true =>
    have run : runUp 3 s.recon.busHighRun = min (s.recon.busHighRun + 1) 3 := rfl
    by_cases third : runUp 3 s.recon.busHighRun = 3 <;> cases active : s.recon.busHighActive <;>
      simp [third, active, ← run]

/-- An episode begins at the third code in a row above the trip (R79). -/
theorem busHighCheck_notice (p : Word) (v : Nat) (s : State) :
    let begins := aboveTrip v (inputRow .bus s).trip = true ∧ nextBusRun v s = 3 ∧ s.recon.busHighActive = false
    (¬begins → (busHighCheck p v s).rq = s.rq ∧ (busHighCheck p v s).link = s.link) ∧
    (begins → (busHighCheck p v s).rq = (joinNotice (.busHigh p v) s).rq) := by
  unfold busHighCheck nextBusRun
  cases above : aboveTrip v (inputRow .bus s).trip with
  | false => simp
  | true =>
    have run : runUp 3 s.recon.busHighRun = min (s.recon.busHighRun + 1) 3 := rfl
    by_cases begins : runUp 3 s.recon.busHighRun = 3 ∧ s.recon.busHighActive = false
    · have joined := (joinNotice_congr (.busHigh p v)
        (s := (s.withRecon { s.recon with busHighRun := 3, busHighActive := true })) (t := s) rfl rfl rfl).1
      simpa [begins, ← run] using joined
    · rw [← run]
      simp [begins]

/-! ### The check of a TEMP code (R80) -/

/-- The over-temperature run after a code (R80). -/
def nextTempRun (v : Nat) (s : State) : Nat :=
  if aboveTrip v (inputRow .temp s).trip then min (s.recon.overTempRun + 1) 3 else 0

theorem nextTempRun_ne_three {v : Nat} {s : State} (h : aboveTrip v (inputRow .temp s).trip = false) :
    nextTempRun v s ≠ 3 := by
  simp [nextTempRun, h]

theorem overTempCheck_of_ne_three (first : Motor) {v : Nat} {s : State} (h : nextTempRun v s ≠ 3) :
    overTempCheck first v s = s.withRecon { s.recon with overTempRun := nextTempRun v s } := by
  cases above : aboveTrip v (inputRow .temp s).trip with
  | false => simp [overTempCheck, nextTempRun, above]
  | true =>
    have run : runUp 3 s.recon.overTempRun ≠ 3 := by rwa [nextTempRun, if_pos above] at h
    simp only [overTempCheck, above, if_true, State.withRecon_recon, run, if_false, nextTempRun]
    rfl

theorem overTempCheck_of_three (first : Motor) {v : Nat} {s : State} (h : nextTempRun v s = 3) :
    overTempCheck first v s =
      bothMotors first drumOverTemp pumpOverTemp (s.withRecon { s.recon with overTempRun := 3 }) := by
  have above : aboveTrip v (inputRow .temp s).trip = true := by
    cases hab : aboveTrip v (inputRow .temp s).trip with
    | true => rfl
    | false => exact absurd h (nextTempRun_ne_three hab)
  have run : runUp 3 s.recon.overTempRun = 3 := by
    rwa [nextTempRun, if_pos above] at h
  simp [overTempCheck, above, run]

theorem drumOverTemp_of_running {s : State} (h : s.drum.state = .run ∨ s.drum.state = .brake) :
    drumOverTemp s = enterDrumSafe .overTemp s := by
  rcases h with h | h <;> simp [drumOverTemp, h]

theorem drumOverTemp_of_still {s : State} (run : s.drum.state ≠ .run) (brake : s.drum.state ≠ .brake) :
    drumOverTemp s = s := by
  unfold drumOverTemp
  split
  case h_1 h => exact absurd h run
  case h_2 h => exact absurd h brake
  all_goals rfl

theorem drumOverTemp_overTempRun (s : State) : (drumOverTemp s).recon.overTempRun = s.recon.overTempRun := by
  by_cases running : s.drum.state = .run ∨ s.drum.state = .brake
  · rw [drumOverTemp_of_running running, enterDrumSafe_recon]
  · push Not at running
    rw [drumOverTemp_of_still running.1 running.2]

@[simp] theorem enterPumpSafe_cause (c : Cause) (s : State) :
    (enterPumpSafe c s).pump.cause = some ⟨c, .empty⟩ := by
  simp only [enterPumpSafe, joinNotice_kept, takePumpSnapshot]
  split <;> simp

/-- The drum's part of an over-temperature, whichever motor goes first (R80). -/
theorem bothMotors_overTemp_drum (first : Motor) (s : State) :
    (bothMotors first drumOverTemp pumpOverTemp s).recon.overTempRun = s.recon.overTempRun ∧
    (s.drum.state = .run ∨ s.drum.state = .brake →
      (bothMotors first drumOverTemp pumpOverTemp s).drum.state = .safe ∧
      (bothMotors first drumOverTemp pumpOverTemp s).drum.cause = some ⟨.overTemp, .empty⟩) ∧
    (s.drum.state ≠ .run → s.drum.state ≠ .brake →
      (bothMotors first drumOverTemp pumpOverTemp s).drum = s.drum ∧
      (bothMotors first drumOverTemp pumpOverTemp s).recon = s.recon) := by
  have pumpFirst : (pumpOverTemp s).drum = s.drum := by simp
  refine ⟨?_, fun running => ?_, fun run brake => ?_⟩
  · cases first <;> simp [bothMotors, drumOverTemp_overTempRun]
  · cases first with
    | drum => simp [bothMotors, drumOverTemp_of_running running]
    | pump => simp [bothMotors, drumOverTemp_of_running (s := pumpOverTemp s) (pumpFirst ▸ running)]
  · cases first with
    | drum => simp [bothMotors, drumOverTemp_of_still run brake]
    | pump => simp [bothMotors, drumOverTemp_of_still (s := pumpOverTemp s) (pumpFirst ▸ run) (pumpFirst ▸ brake)]

/-- The pump's part of an over-temperature, whichever motor goes first (R80). -/
theorem bothMotors_overTemp_pump (first : Motor) (s : State) :
    (s.pump.state.running = true →
      (bothMotors first drumOverTemp pumpOverTemp s).pump.state = .safe ∧
      (bothMotors first drumOverTemp pumpOverTemp s).pump.cause = some ⟨.overTemp, .empty⟩) ∧
    (s.pump.state.running = false →
      (bothMotors first drumOverTemp pumpOverTemp s).pump = s.pump ∧
      (bothMotors first drumOverTemp pumpOverTemp s).comm = s.comm ∧
      (bothMotors first drumOverTemp pumpOverTemp s).pumpGates = s.pumpGates) := by
  refine ⟨fun running => ?_, fun still => ?_⟩
  · cases first <;> simp [bothMotors, pumpOverTemp, running]
  · cases first <;> simp [bothMotors, pumpOverTemp, still]

/-! ### CONVERSION_DONE -/

theorem aboveTrip_eq (v : Nat) (trip : Code) : aboveTrip v trip = decide (trip ≠ 0 ∧ trip.toNat < v) := by
  simp [aboveTrip, Bool.decide_and]

/-- The queue and the lost counters stand, and a HOUSE code of window 1 alone is a bus reading (R57, R59, R66). -/
theorem deliver_code_sched (first : Motor) (c : Conversion) (code : Code) (s : State) :
    let t := deliver first (codeOutcome c code s) (idled s)
    t.sched.converter = none ∧ t.sched.queue = s.sched.queue ∧ t.sched.lostDrum = s.sched.lostDrum ∧
    t.sched.lostPump = s.sched.lostPump ∧
    t.sched.busReading =
      (if c.request.owner = .house ∧ c.request.window = 1 then
        (correctedValue c.request.measurand code (inputRow c.request.measurand s).offset).toNat
      else s.sched.busReading) := by
  intro t
  have delivered : t = _ := deliver_code first c code s (idled s)
  clear_value t
  subst delivered
  cases owner : c.request.owner with
  | drum =>
    obtain ⟨converter, queue, reading, drum, pump⟩ := deliverDrum_sameButTable (codeOutcome c code s) (idled s)
    exact ⟨converter, queue, drum, pump, reading.trans (if_neg (by simp)).symm⟩
  | pump =>
    obtain ⟨converter, queue, reading, drum, pump⟩ := deliverPump_sameButTable (codeOutcome c code s) (idled s)
    exact ⟨converter, queue, drum, pump, reading.trans (if_neg (by simp)).symm⟩
  | house =>
    simp only [deliverHouse_sched first (codeOutcome c code s) rfl]
    exact ⟨rfl, rfl, rfl, rfl, if_congr (by simp [codeOutcome]) rfl rfl⟩

/-- The parts of the state a DRUM code can reach (R57). -/
theorem deliverDrum_frame (o : ConversionOutcome) (s : State) :
    let t := deliverDrum o s
    t = { s with
      sched := t.sched, drumGates := t.drumGates, planner := t.planner, recon := t.recon, drum := t.drum, link := t.link,
      rq := t.rq } := by
  ext1 <;> simp

/-- The parts of the state a PUMP code can reach (R57). -/
theorem deliverPump_frame (o : ConversionOutcome) (s : State) :
    let t := deliverPump o s
    t = { s with
      sched := t.sched, pumpGates := t.pumpGates, comm := t.comm, pump := t.pump, link := t.link, rq := t.rq } := by
  ext1 <;> simp

/-- A HOUSE code, but for one of window 2, reaches the reconstructor, the bus reading and a notice alone (R57, R79). -/
theorem deliverHouse_frame (first : Motor) {o : ConversionOutcome} (window : o.window ≠ 2) (s : State) :
    let t := deliverHouse first o s
    t = { s with sched := t.sched, recon := t.recon, link := t.link, rq := t.rq } := by
  simp only [deliverHouse]
  split
  · ext1 <;> simp
  case h_2 two => exact absurd two window
  · ext1 <;> simp

theorem deliverHouse_bus (first : Motor) {o : ConversionOutcome} {raw : Code} {value : Int} {start startStep : Tick}
    (kind : o.kind = .code raw value start startStep) (window : o.window = 1) (s : State) :
    ∃ u : State, u.rq = s.rq ∧ u.link = s.link ∧ u.time = s.time ∧ u.drumCar = s.drumCar ∧
      u.recon = (fileOutcome o s).recon ∧ inputRow .bus u = inputRow .bus s ∧
      deliverHouse first o s = busHighCheck o.period value.toNat u :=
  ⟨(fileOutcome o s).withSched { s.sched with busReading := value.toNat }, rfl, rfl, rfl, rfl, rfl, rfl, by
    simp only [deliverHouse, kind, window]
    rfl⟩

theorem deliverHouse_temp (first : Motor) {o : ConversionOutcome} {raw : Code} {value : Int} {start startStep : Tick}
    (kind : o.kind = .code raw value start startStep) (window : o.window = 2) (s : State) :
    deliverHouse first o s = overTempCheck first value.toNat (fileOutcome o s) := by
  simp only [deliverHouse, kind, window]

theorem deliverHouse_other (first : Motor) {o : ConversionOutcome} (one : o.window ≠ 1) (two : o.window ≠ 2) (s : State) :
    deliverHouse first o s = fileOutcome o s := by
  simp only [deliverHouse]
  split
  case h_1 h => exact absurd h one
  case h_2 h => exact absurd h two
  case h_3 => rfl

/-- A TEMP code (R80): the run moves, and at 3 each running motor is in SAFE with OVER_TEMP. -/
theorem overTempCheck_spec (first : Motor) (v : Nat) (s : State) :
    let t := overTempCheck first v s
    t.recon.overTempRun = nextTempRun v s ∧
    (nextTempRun v s ≠ 3 → t = s.withRecon { s.recon with overTempRun := nextTempRun v s }) ∧
    (nextTempRun v s = 3 →
      (s.drum.state = .run ∨ s.drum.state = .brake → t.drum.state = .safe ∧ t.drum.cause = some ⟨.overTemp, .empty⟩) ∧
      (s.drum.state ≠ .run → s.drum.state ≠ .brake →
        t.drum = s.drum ∧ t.recon = { s.recon with overTempRun := nextTempRun v s }) ∧
      (s.pump.state.running = true → t.pump.state = .safe ∧ t.pump.cause = some ⟨.overTemp, .empty⟩) ∧
      (s.pump.state.running = false → t.pump = s.pump ∧ t.comm = s.comm ∧ t.pumpGates = s.pumpGates)) := by
  intro t
  by_cases third : nextTempRun v s = 3
  · have both : t = _ := overTempCheck_of_three first third
    obtain ⟨run, drumRuns, drumStands⟩ :=
      bothMotors_overTemp_drum first (s.withRecon { s.recon with overTempRun := 3 })
    obtain ⟨pumpRuns, pumpStands⟩ := bothMotors_overTemp_pump first (s.withRecon { s.recon with overTempRun := 3 })
    rw [← both] at run drumRuns drumStands pumpRuns pumpStands
    rw [third]
    exact ⟨run, fun h => absurd rfl h, fun _ => ⟨drumRuns, drumStands, pumpRuns, pumpStands⟩⟩
  · have moved : t = _ := overTempCheck_of_ne_three first third
    exact ⟨by rw [moved]; rfl, fun _ => moved, fun h => absurd h third⟩

/-- Settles O24: the code is delivered to the blocks of its owner, each part of the statement by the owner and window. -/
theorem conversionYieldsItsCode : Obligations.ConversionYieldsItsCode := by
  unfold Obligations.ConversionYieldsItsCode
  intro code first s c busy ended value above o filed
  have sched := deliver_code_sched first c code s
  have delivered := deliver_code first c code s (idled s)
  have reached := exec_conversionDone code first busy ended
  have same : codeOutcome c code s = o := rfl
  have kind : o.kind = .code code value c.start c.startStep := rfl
  rw [same] at sched delivered reached
  have tripped : ∀ m, above m = aboveTrip value.toNat (inputRow m s).trip := fun m => (aboveTrip_eq _ _).symm
  refine ⟨deliver first o (idled s), reached, ?_⟩
  obtain ⟨converter, queue, lostDrum, lostPump, reading⟩ := sched
  refine ⟨converter, queue, lostDrum, lostPump, reading, fun owner => ?_, fun owner still => ?_, fun owner => ?_,
    fun owner window => ?_, fun owner window => ?_, fun owner one two => ?_, fun owner window => ?_, ?_⟩
  case refine_8 => ext1 <;> simp [idled]
  all_goals rw [delivered, owner]
  case refine_1 => exact deliverDrum_frame o (idled s)
  case refine_2 => exact deliverDrum_of_ne_offset o still
  case refine_3 => exact deliverPump_frame o (idled s)
  case refine_4 =>
    intro run begins
    obtain ⟨u, rq, link, time, car, recon, row, checked⟩ := deliverHouse_bus first kind window (idled s)
    have counted : nextBusRun value.toNat u = run := by
      simp only [nextBusRun, row, recon, run, tripped]
      rfl
    have active : u.recon.busHighActive = s.recon.busHighActive := by rw [recon]; rfl
    have noticed := busHighCheck_notice o.period value.toNat u
    simp only [counted, row, active] at noticed
    rw [checked, busHighCheck_recon, counted, row, recon]
    simp only [begins, tripped]
    exact ⟨rfl, fun none => ⟨(noticed.1 none).1.trans rq, (noticed.1 none).2.trans link⟩,
      fun third => (noticed.2 third).trans (joinNotice_congr (t := s) _ rq time car).1⟩
  case refine_5 =>
    intro run
    have counted : nextTempRun value.toNat (fileOutcome o (idled s)) = run := by
      simp only [run, tripped]
      rfl
    rw [deliverHouse_temp first kind window, ← counted]
    exact overTempCheck_spec first value.toNat (fileOutcome o (idled s))
  case refine_6 => exact deliverHouse_other first one two (idled s)
  case refine_7 => exact deliverHouse_frame first window (idled s)

end Sys2Proof.Machine
end

section
/-! PROOFS. The offset calibrations of both motors (R63, R85 to R87, R133, R134). -/

namespace Sys2Proof.Machine

/-! ### The end of the drum's calibration -/

theorem offsetInRange_iff (offset : Nat) : offsetInRange offset = true ↔ Within 1848 2248 offset := by
  simp [offsetInRange, Within]

/-- A calibrated offset goes into a row whose source is CALIBRATE (R63). -/
theorem writeOffset_of_calibrate {m : Measurand} {s : State} (source : (inputRow m s).source = .calibrate) (offset : Nat) :
    writeOffset m offset s =
      s.withSched
        { s.sched with
          table := s.sched.table.set m.index { inputRow m s with offset := BitVec.ofNat 12 offset } } :=
  if_pos source

/-- READY floats the drum and empties the plan in force, and nothing else changes (R23, R90, R94). -/
theorem enterDrumState_ready (s : State) :
    enterDrumState .ready s =
      { s with
        drum := { s.drum with state := .ready, stopPending := none }
        planner := { s.planner with inForce := none }
        drumGates := s.drumGates.map floated } := by
  have gates : s.drumGates.map (PhaseRecord.command .float (enableTick s) (forcing .drum s)) = s.drumGates.map floated :=
    congrArg s.drumGates.map (funext fun r => PhaseRecord.command_float _ _ r)
  ext1
  case drumGates => exact gates
  all_goals rfl

/-- A notice that joins before the drum enters READY, joins after it as well. -/
theorem enterDrumState_ready_joinNotice (n : Notice) (s : State) :
    enterDrumState .ready (joinNotice n s) = joinNotice n (enterDrumState .ready s) := by
  obtain ⟨rq, link⟩ := joinNotice_congr n (s := enterDrumState .ready s) (t := s) (by simp) (by simp) (by simp)
  ext1
  case rq => simpa using rq.symm
  case link => simpa using (link (by simp)).symm
  all_goals simp [enterDrumState_ready]

/-- The 64th code of the drum's calibration (R86, R87): READY with the offset in its row, or SAFE. -/
theorem endDrumCalibration_spec (s : State) :
    let offset := (s.drum.calib.sum + 32) / 64
    (¬Within 1848 2248 offset → endDrumCalibration s = enterDrumSafe .offsetRange s) ∧
    (Within 1848 2248 offset →
      endDrumCalibration s =
        joinNotice (.drumState .ready)
          (joinNotice (.offsetDone .drum offset) (enterDrumState .ready (writeOffset .drumShunt offset s)))) := by
  intro offset
  refine ⟨fun out => if_neg (mt (offsetInRange_iff offset).1 out), fun within => ?_⟩
  calc endDrumCalibration s
      = changeDrum .ready (joinNotice (.offsetDone .drum offset) (writeOffset .drumShunt offset s)) :=
        if_pos ((offsetInRange_iff offset).2 within)
    _ = _ := by rw [changeDrum, enterDrumState_ready_joinNotice]

/-- The 64th code of the pump's calibration (R133, R134): ALIGN with the offset in its row, or SAFE. -/
theorem endPumpCalibration_spec (s : State) :
    let offset := (s.pump.calib.sum + 32) / 64
    let done := joinNotice (.offsetDone .pump offset) (writeOffset .pumpShunt offset s)
    (¬Within 1848 2248 offset → endPumpCalibration s = enterPumpSafe .offsetRange s) ∧
    (Within 1848 2248 offset →
      (s.input.permit = false ∧ s.pump.dry = false → endPumpCalibration s = enterPumpSafe .permit done) ∧
      (s.input.permit = true ∨ s.pump.dry = true → endPumpCalibration s = enterAlign done)) := by
  intro offset done
  refine ⟨fun out => if_neg (mt (offsetInRange_iff offset).1 out), fun within => ?_⟩
  have passed : endPumpCalibration s = if done.input.permit || done.pump.dry then enterAlign done else enterPumpSafe .permit done :=
    if_pos ((offsetInRange_iff offset).2 within)
  have permit : done.input.permit = s.input.permit := by simp [done]
  have dry : done.pump.dry = s.pump.dry := by simp [done]
  rw [passed, permit, dry]
  exact ⟨fun none => by simp [none], fun any => by simp [any]⟩

theorem enterAlign_spec (s : State) :
    (enterAlign s).pump.state = .align ∧ (enterAlign s).pump.alignEntry = some s.time.tick ∧
    (enterAlign s).comm.stepIndex = s.pump.profile.startIndex := by
  simp [enterAlign, pumpStateNotice]

/-! ### The drum's period start in OFFSET (R85) -/

/-! A LOST outcome, a request and a plan leave the input table. -/

@[simp] theorem deliverLost_table (r : Request) (reason : LostReason) (s : State) :
    (deliverLost r reason s).sched.table = s.sched.table := by
  rw [deliverLost_eq]
  rfl

@[simp] theorem joinRequest_table (r : Request) (s : State) : (joinRequest r s).sched.table = s.sched.table := by
  simp only [joinRequest]
  split
  · simp [State.withQueue]
  · split <;> simp [State.withQueue]

@[simp] theorem makeRequest_table (r : Request) (s : State) : (makeRequest r s).sched.table = s.sched.table := by
  unfold makeRequest
  split <;> simp

@[simp] theorem houseRequests_table (s : State) : (houseRequests s).sched.table = s.sched.table := by
  simp only [houseRequests]
  split <;> simp

@[simp] theorem planRequest_table (window : Nat) (span : Option RequestSpan) (s : State) :
    (planRequest window span s).sched.table = s.sched.table := by
  unfold planRequest
  split <;> simp

@[simp] theorem applyPlan_table (s : State) : (applyPlan s).sched.table = s.sched.table := by
  simp only [applyPlan]
  split
  · split <;> simp
  · rfl

@[simp] theorem calibrateDrum_table (s : State) : (calibrateDrum s).sched.table = s.sched.table := by
  unfold calibrateDrum drumCalibrationRequest
  split
  · split <;> simp
  · rfl

/-- An effect that keeps something keeps it whether it is taken or not. -/
theorem takeIf_keeps {p : State → Prop} {f : State → State} (hf : ∀ s, p s → p (f s)) (b : Bool) {s : State} (h : p s) :
    p (takeIf b f s) := by
  cases b with
  | true => exact hf s h
  | false => exact h

theorem drumPeriodStart_table (permit : Bool) (o : PeriodOrder) (s : State) :
    (drumPeriodStart permit o s).sched.table = s.sched.table := by
  simp [drumPeriodStart, apply_ite Scheduler.table]

/-- The drum stands in OFFSET as `d`, in the drum period `n`. -/
def CalibratingAs (d : DrumControl) (n : Word) (s : State) : Prop :=
  s.drum = d ∧ d.state = .offset ∧ s.drumCar.period = n

theorem CalibratingAs.of_kept {d : DrumControl} {n : Word} {s t : State} (h : CalibratingAs d n s)
    (drum : s.drum.state = .offset → t.drum = s.drum) (car : t.drumCar = s.drumCar) : CalibratingAs d n t := by
  obtain ⟨same, offset, period⟩ := h
  exact ⟨(drum (same ▸ offset)).trans same, offset, car ▸ period⟩

/-- A change of the permit leaves a drum in OFFSET (R95). -/
theorem drumPermitLost_of_offset {s : State} (h : s.drum.state = .offset) : drumPermitLost s = s := by
  simp [drumPermitLost, h]

@[simp] theorem enterDrumSafe_calib (c : Cause) (s : State) : (enterDrumSafe c s).drum.calib = s.drum.calib := by
  simp only [enterDrumSafe, joinNotice_kept, takeDrumSnapshot]
  split <;> simp

/-- At the drum a change of the permit does what its loss does, or nothing (R17, R18). -/
theorem permitChanged_drum_eq (before : State) (first : Motor) (s : State) :
    (permitChanged before first s).drum = s.drum ∨
      ∃ u : State, u.drum = s.drum ∧ (permitChanged before first s).drum = (drumPermitLost u).drum := by
  have forced : ∀ f g, (applyForcing .pump f (applyForcing .drum g s)).drum = s.drum := by simp
  simp only [permitChanged]
  split
  · exact .inl (forced _ _)
  · cases first with
    | drum => exact .inr ⟨_, forced (forcing .pump before) (forcing .drum before), by simp [bothMotors]⟩
    | pump => exact .inr ⟨pumpPermitLost _, by simp, rfl⟩

theorem takePermit_drum_eq (sample : Bool) (first : Motor) (s : State) :
    (takePermit sample first s).drum = s.drum ∨
      ∃ u : State, u.drum = s.drum ∧ (takePermit sample first s).drum = (drumPermitLost u).drum := by
  simp only [takePermit]
  split
  · exact .inl rfl
  · exact permitChanged_drum_eq s first (s.withInput _)

theorem takePermit_drum_of_offset (sample : Bool) (first : Motor) {s : State} (h : s.drum.state = .offset) :
    (takePermit sample first s).drum = s.drum := by
  rcases takePermit_drum_eq sample first s with same | ⟨u, hu, lost⟩
  · exact same
  · rw [lost, drumPermitLost_of_offset (hu ▸ h), hu]

theorem takeStop_of_offset {s : State} (h : s.drum.state = .offset) : takeStop s = s := by simp [takeStop, h]

theorem enterRun_of_offset {s : State} (h : s.drum.state = .offset) : enterRun s = s := by simp [enterRun, h]

theorem drumOvercurrent_of_ne_run {s : State} (h : s.drum.state ≠ .run) : drumOvercurrent s = s := if_neg h

/-! What a period start does before the calibration leaves a drum in OFFSET. -/

namespace CalibratingAs
variable {d : DrumControl} {n : Word} {s : State}

theorem permit (sample : Bool) (first : Motor) (s : State) (h : CalibratingAs d n s) :
    CalibratingAs d n (takePermit sample first s) :=
  h.of_kept (takePermit_drum_of_offset sample first) (by simp)

theorem stop (s : State) (h : CalibratingAs d n s) : CalibratingAs d n (takeStop s) :=
  h.of_kept (fun offset => by rw [takeStop_of_offset offset]) (by simp)

theorem trip (s : State) (h : CalibratingAs d n s) : CalibratingAs d n (drumOvercurrent s) :=
  h.of_kept (fun offset => by rw [drumOvercurrent_of_ne_run (by simp [offset])]) (by simp)

theorem house (s : State) (h : CalibratingAs d n s) : CalibratingAs d n (houseRequests s) :=
  h.of_kept (by simp) (by simp)

theorem run (h : CalibratingAs d n s) : CalibratingAs d n (enterRun s) :=
  h.of_kept (fun offset => by rw [enterRun_of_offset offset]) (by simp)

theorem closed (e : Option PeriodEntry) (h : CalibratingAs d n s) : CalibratingAs d n (closeHouse (closeEnding e s)) :=
  h.of_kept (by simp) (by simp)

theorem opened (h : CalibratingAs d n s) : CalibratingAs d n (openHouse s) := h.of_kept (by simp) (by simp)

theorem applied (h : CalibratingAs d n s) : CalibratingAs d n (applyPlan s) := h.of_kept (by simp) (by simp)

end CalibratingAs

/-- A period start of a drum in OFFSET: up to the calibration nothing reaches the drum (R85), and what holds after the
calibration holds at the end if the permit turn and the trip keep it. -/
theorem drumPeriodStart_of_offset (permit : Bool) (o : PeriodOrder) {s : State} (offset : s.drum.state = .offset)
    {p : State → Prop} (calibrated : ∀ u, CalibratingAs s.drum (s.drumCar.period + 1) u → p (calibrateDrum u))
    (permitKeeps : ∀ u, p u → p (takePermit permit o.first u)) (tripKeeps : ∀ u, p u → p (drumOvercurrent u)) :
    p (drumPeriodStart permit o s) := by
  have begun : CalibratingAs s.drum (s.drumCar.period + 1) (beginDrumPeriod s) := ⟨rfl, offset, rfl⟩
  have stopped := takeIf_keeps CalibratingAs.stop o.stopFirst
    (takeIf_keeps (CalibratingAs.permit permit o.first) (decide (o.permitTurn = .beforeClose)) begun)
  have tripped := takeIf_keeps CalibratingAs.trip
    (decide (s.drum.state = .run) && endingTrips s.recon.periodEntry
      (takeIf o.stopFirst takeStop
        (takeIf (decide (o.permitTurn = .beforeClose)) (takePermit permit o.first) (beginDrumPeriod s))) && o.tripFirst)
    (takeIf_keeps (CalibratingAs.permit permit o.first) (decide (o.permitTurn = .beforeEntry))
      (stopped.closed s.recon.periodEntry))
  have entered := (CalibratingAs.stop _ tripped).run.opened
  have applied := (takeIf_keeps (CalibratingAs.permit permit o.first) (decide (o.permitTurn = .afterEntry))
    (takeIf_keeps CalibratingAs.house o.houseFirst entered)).applied
  have done := calibrated _ (takeIf_keeps CalibratingAs.house (!o.houseFirst) applied)
  exact takeIf_keeps permitKeeps _ (takeIf_keeps tripKeeps _ (takeIf_keeps permitKeeps _ done))

/-- The 256th period of a calibration is its last (R85). -/
theorem calibrateDrum_of_offset {d : DrumControl} {n : Word} {s : State} (h : CalibratingAs d n s) :
    (d.calib.periods ≠ 256 →
      (calibrateDrum s).drum = { d with calib := { d.calib with periods := d.calib.periods + 1, period := some n } }) ∧
    (d.calib.periods = 256 →
      (calibrateDrum s).drum.state = .safe ∧ (calibrateDrum s).drum.calib = d.calib ∧
      (calibrateDrum s).drum.cause = some ⟨.offsetRange, .empty⟩) := by
  obtain ⟨rfl, offset, rfl⟩ := h
  unfold calibrateDrum
  rw [if_pos offset]
  refine ⟨fun more => ?_, fun last => ?_⟩
  · rw [if_neg more]
    simp
  · rw [if_pos last]
    simp

/-- The drum is in SAFE for a calibration that failed, with its figures as they were (R87, R96). -/
def CalibrationFailed (c : Calibration) (s : State) : Prop :=
  s.drum.state = .safe ∧ s.drum.calib = c ∧ ∃ r, s.drum.cause = some r ∧ r.first = .offsetRange

/-- In SAFE the loss of the permit is a further cause (R97). -/
theorem CalibrationFailed.permit {c : Calibration} (sample : Bool) (first : Motor) (s : State)
    (h : CalibrationFailed c s) : CalibrationFailed c (takePermit sample first s) := by
  obtain ⟨safe, calib, r, cause, offsetRange⟩ := h
  rcases takePermit_drum_eq sample first s with same | ⟨u, hu, lost⟩
  · exact ⟨same ▸ safe, same ▸ calib, r, same ▸ cause, offsetRange⟩
  · have added : drumPermitLost u = addDrumCause .permit u := by simp [drumPermitLost, hu, safe]
    rw [CalibrationFailed, lost, added]
    exact ⟨by simpa [addDrumCause, hu] using safe, by simpa [addDrumCause, hu] using calib, r.add .permit,
      by simp [addDrumCause, hu, cause], offsetRange⟩

theorem CalibrationFailed.trip {c : Calibration} (s : State) (h : CalibrationFailed c s) :
    CalibrationFailed c (drumOvercurrent s) := by
  rwa [drumOvercurrent_of_ne_run (by simp [h.1])]

theorem drumPeriodStart_calibrates (permit : Bool) (o : PeriodOrder) {s : State} (offset : s.drum.state = .offset)
    (more : s.drum.calib.periods ≠ 256) :
    (drumPeriodStart permit o s).drum =
      { s.drum with
        calib := { s.drum.calib with periods := s.drum.calib.periods + 1, period := some (s.drumCar.period + 1) } } := by
  refine drumPeriodStart_of_offset permit o offset (p := fun t => t.drum = _)
    (fun u h => (calibrateDrum_of_offset h).1 more) (fun u h => ?_) (fun u h => ?_)
  · exact (takePermit_drum_of_offset permit o.first (h ▸ offset)).trans h
  · rwa [drumOvercurrent_of_ne_run (by simp [h, offset])]

theorem drumPeriodStart_calibrationFailed (permit : Bool) (o : PeriodOrder) {s : State} (offset : s.drum.state = .offset)
    (last : s.drum.calib.periods = 256) : CalibrationFailed s.drum.calib (drumPeriodStart permit o s) := by
  refine drumPeriodStart_of_offset permit o offset (fun u h => ?_) (CalibrationFailed.permit permit o.first)
    CalibrationFailed.trip
  obtain ⟨safe, calib, cause⟩ := (calibrateDrum_of_offset h).2 last
  exact ⟨safe, calib, _, cause, rfl⟩

/-! ### The calibration's samples -/

/-- The code of the drum's calibration request (R85, R86) is filed and sampled. -/
theorem deliverDrum_of_calibration {o : ConversionOutcome} {raw : Code} {value : Int} {start startStep : Tick}
    (kind : o.kind = .code raw value start startStep) (window : o.window = 1) {s : State}
    (offset : s.drum.state = .offset) (period : s.drum.calib.period = some o.period) :
    let u := (fileOutcome o s).withDrum { s.drum with calib := s.drum.calib.sample raw }
    deliverDrum o s = if s.drum.calib.codes + 1 = 64 then endDrumCalibration u else u := by
  simp only [deliverDrum, kind, window]
  exact if_pos ⟨offset, period⟩

/-- The code of the pump's calibration request (R133) is sampled. -/
theorem deliverPump_of_calibration {o : ConversionOutcome} {raw : Code} {value : Int} {start startStep : Tick}
    (kind : o.kind = .code raw value start startStep) (window : o.window = 1) {s : State}
    (offset : s.pump.state = .offset) (period : s.pump.calib.period = some o.period) :
    let u := s.withPump { s.pump with calib := s.pump.calib.sample raw }
    deliverPump o s = if s.pump.calib.codes + 1 = 64 then endPumpCalibration u else u := by
  simp only [deliverPump, kind, window, pumpShuntCode, offset, if_true, pumpCalibrationCode, period]
  rfl

/-- Settles O30: the samples by owner, and the period start in OFFSET. -/
theorem drumCalibrationSamples : Obligations.DrumCalibrationSamples := by
  unfold Obligations.DrumCalibrationSamples
  refine ⟨fun code first s c busy ended window => ?_, fun permit o s due offset => ?_⟩
  · intro value out write
    have kind : out.kind = .code code value c.start c.startStep := rfl
    have delivered := deliver_code first c code s (idled s)
    have done := exec_conversionDone code first busy ended
    rw [show codeOutcome c code s = out from rfl] at delivered done
    rw [delivered] at done
    refine ⟨fun owner offset period => ?_, fun owner offset period => ?_⟩
    · intro sum mean u
      rw [owner] at done
      simp only [deliverDrum_of_calibration kind window (s := idled s) offset period] at done
      obtain ⟨failed, passed⟩ := endDrumCalibration_spec u
      refine ⟨fun more => ?_, fun last out => ?_, fun last within source => ?_⟩
      · exact done.trans (congrArg _ (if_neg more))
      · exact done.trans (congrArg _ ((if_pos last).trans (failed out)))
      · refine done.trans (congrArg _ ((if_pos last).trans ((passed within).trans ?_)))
        rw [enterDrumState_ready, writeOffset_of_calibrate (s := u) source]
        rfl
    · intro sum mean u joined
      rw [owner] at done
      simp only [deliverPump_of_calibration kind window (s := idled s) offset period] at done
      obtain ⟨failed, passed⟩ := endPumpCalibration_spec u
      refine ⟨fun more => ?_, fun last out => ?_, fun last within source => ?_⟩
      · exact done.trans (congrArg _ (if_neg more))
      · exact done.trans (congrArg _ ((if_pos last).trans (failed out)))
      · obtain ⟨refused, aligned⟩ := passed within
        rw [writeOffset_of_calibrate (s := u) source] at refused aligned
        refine ⟨fun none => ?_, fun any => ⟨?_, ?_⟩⟩
        · exact done.trans (congrArg _ ((if_pos last).trans (refused none)))
        · exact done.trans (congrArg _ ((if_pos last).trans (aligned any)))
        · simpa [joined] using enterAlign_spec joined
  · refine ⟨drumPeriodStart permit o s, ?_, drumPeriodStart_table permit o s,
      drumPeriodStart_calibrates permit o offset, drumPeriodStart_calibrationFailed permit o offset⟩
    change execDrumPeriodStart permit o s = _
    rw [execDrumPeriodStart, if_pos due]

end Sys2Proof.Machine
end

section
/-! PROOFS. The TABLE frames (R61, R62, R107, R130). -/

namespace Sys2Proof.Machine

/-! ### The completion of a frame in READY -/

section
variable {s : State} {fr : FrameInProgress} (receiving : Receiving s fr) (ready : s.link.state = .ready) {b : Body}
  {r : Result}
include receiving ready

theorem decideFrame_whenReady : decideFrame (whenReady b) s = runBody b (endBreakRun (sentWhole fr s)) := by
  have linkReady : (endBreakRun (sentWhole fr s)).link.state = .ready := ready
  rw [decideFrame_receiving receiving, runBody, runBody, whenReady_of_ready linkReady]

/-- A refused frame is answered, and nothing else changes (R153). -/
theorem decideFrame_of_refused
    (refused : b (endBreakRun (sentWhole fr s)) = (endBreakRun (sentWhole fr s), r)) :
    decideFrame (whenReady b) s = answered fr r s := by
  rw [decideFrame_whenReady receiving ready, runBody, refused, setResult_sentWhole]

/-- A frame that is taken is answered, on the state that its body leaves (R153). -/
theorem decideFrame_of_taken {t : State} (taken : b (endBreakRun (sentWhole fr s)) = (t, r)) :
    decideFrame (whenReady b) s = setResult r t := by
  rw [decideFrame_whenReady receiving ready, runBody, taken]

end

theorem setResult_withPump (r : Result) (fr : FrameInProgress) (p : PumpControl) (s : State) :
    setResult r ((endBreakRun (sentWhole fr s)).withPump p) = { answered fr r s with pump := p } := by
  rw [setResult_eq, endBreakRun_sentWhole]
  rfl

theorem setResult_withComm (r : Result) (fr : FrameInProgress) (c : Commutator) (s : State) :
    setResult r ((endBreakRun (sentWhole fr s)).withComm c) = { answered fr r s with comm := c } := by
  rw [setResult_eq, endBreakRun_sentWhole]
  rfl

theorem setResult_withSched (r : Result) (fr : FrameInProgress) (x : Scheduler) (s : State) :
    setResult r ((endBreakRun (sentWhole fr s)).withSched x) = { answered fr r s with sched := x } := by
  rw [setResult_eq, endBreakRun_sentWhole]
  rfl

/-! ### Clamped fields -/

/-- A frame whose fields are all in range is OK, any other OK_CLAMPED (R61, R130). -/
theorem takenResult_of_not {clamped same : Bool} (h : clamped = !same) :
    takenResult clamped = if same then .ok else .okClamped := by
  subst h
  cases same <;> rfl

theorem outside_eq_not (lo hi n : Nat) : outside lo hi n = !decide (lo ≤ n ∧ n ≤ hi) := by
  simp only [outside]
  grind

/-- The clamp leaves what lies in range, and that alone. -/
theorem clampTo_eq_self_iff {lo hi : Nat} (h : lo ≤ hi) (n : Nat) : clampTo lo hi n = n ↔ lo ≤ n ∧ n ≤ hi := by
  simp only [clampTo]
  omega

theorem inputClamped_eq_not (offset trip : Word) :
    inputClamped offset trip = !decide (offset.toNat ≤ 4095 ∧ trip.toNat ≤ 4095) := by
  simp only [inputClamped]
  grind

theorem profileClamped_eq_not (f : ProfileFields) (i : Fin 6) :
    profileClamped f =
      !decide ((clampProfile f i).alignPeriods = f.alignPeriods.toNat ∧ (clampProfile f i).alpha8 = f.alpha8.toNat ∧
        (clampProfile f i).blanking = f.blanking.toNat ∧ (clampProfile f i).nstable = f.nstable.toNat ∧
        (clampProfile f i).kzc = f.kzc.toNat) := by
  have periods := clampTo_eq_self_iff (show 1 ≤ 65535 by norm_num) f.alignPeriods.toNat
  have alpha := clampTo_eq_self_iff (show 0 ≤ 232 by norm_num) f.alpha8.toNat
  have blanking := clampTo_eq_self_iff (show 1 ≤ 15 by norm_num) f.blanking.toNat
  have nstable := clampTo_eq_self_iff (show 6 ≤ 15 by norm_num) f.nstable.toNat
  have kzc := clampTo_eq_self_iff (show 1 ≤ 15 by norm_num) f.kzc.toNat
  simp only [clampProfile, periods, alpha, blanking, nstable, kzc, profileClamped, outside_eq_not, Bool.decide_and,
    Bool.not_and, Bool.or_assoc]

/-- No field of the two can exceed its upper limit (R130). -/
theorem rampClamped_eq_not (interval : BitVec 24) (repeats : BitVec 8) :
    rampClamped interval repeats = !decide (100 ≤ interval.toNat ∧ 1 ≤ repeats.toNat) := by
  have hi : interval.toNat ≤ 16777215 := Nat.le_of_lt_succ interval.isLt
  have hr : repeats.toNat ≤ 255 := Nat.le_of_lt_succ repeats.isLt
  simp only [rampClamped, outside_eq_not, hi, hr, and_true, Bool.decide_and, Bool.not_and]

/-! ### Input NONE (R62) -/

/-- `y` with what LOST outcomes reach in a state without a running pump, the lost counters and the entries, from `x`. -/
def withLosses (y x : State) : State :=
  { y with sched := { x.sched with table := y.sched.table, queue := y.sched.queue }, recon := x.recon }

/-- A LOST outcome reaches the commutator of a running pump alone (R115). -/
theorem afterLost_withLosses {y : State} (off : y.pump.state = .off) (reason : LostReason) (r : Request) (x : State) :
    afterLost reason r (withLosses y x) = withLosses y (afterLost reason r x) := by
  simp [afterLost, withLosses, off]

theorem unassigned_withLosses {y : State} (off : y.pump.state = .off) (gone : List Request) (x : State) :
    gone.foldl (fun u q => deliverLost q .unassigned u) (withLosses y x) =
      withLosses y (gone.foldl (fun u q => afterLost .unassigned q u) x) := by
  induction gone generalizing x with
  | nil => rfl
  | cons q gone ih => rw [List.foldl_cons, List.foldl_cons, deliverLost_eq, afterLost_withLosses off, ih]

/-- Input NONE loses the requests of the measurand (R62), with the losses of any state `x` that differs from `s` in none
of the parts they reach. -/
theorem unassign_of_pumpOff {s x : State} (off : s.pump.state = .off) (recon : x.recon = s.recon)
    (sched : s.sched = { x.sched with table := s.sched.table }) (m : Measurand) :
    unassign m s =
      withLosses (s.withQueue (x.sched.queue.filter fun q => decide (q.measurand ≠ m)))
        ((x.sched.queue.filter fun q => decide (q.measurand = m)).foldl (fun u q => afterLost .unassigned q u) x) := by
  have queue : s.sched.queue = x.sched.queue := by rw [sched]
  have start : ∀ kept, s.withQueue kept = withLosses (s.withQueue kept) x := fun kept => by
    rw [withLosses, recon]
    ext1
    case sched => exact congrArg (fun y : Scheduler => { y with queue := kept }) sched
    all_goals rfl
  rw [unassign, queue]
  exact (congrArg (List.foldl _ · _) (start _)).trans
    (unassigned_withLosses (y := s.withQueue (x.sched.queue.filter fun q => decide (q.measurand ≠ m))) off _ x)

/-! ### The bodies of the TABLE frames -/

theorem tableInputBody_of_on {s : State} (h : s.drum.state ≠ .off ∨ s.pump.state ≠ .off) (row : BitVec 4)
    (source : BitVec 2) (input : BitVec 4) (offset trip : Word) :
    tableInputBody row source input offset trip s = (s, .busy) := by
  have on : bothOff s = false := by rcases h with h | h <;> simp [bothOff, h]
  simp [tableInputBody, on]

section
variable {s : State} (drum : s.drum.state = .off) (pump : s.pump.state = .off) {row : BitVec 4} {source : BitVec 2}
  {input : BitVec 4} (offset trip : Word)
include drum pump

theorem tableInputBody_of_bad (h : measurandOf row = none ∨ sourceOf source = none ∨ inputOf input = none) :
    tableInputBody row source input offset trip s = (s, .badArgument) := by
  have off : bothOff s = true := by simp [bothOff, drum, pump]
  rw [tableInputBody, if_pos off]
  rcases h with h | h | h
  · simp [h]
  · cases hi : inputOf input <;> simp [inputRowOf, h, hi]
  · simp [inputRowOf, h]

theorem tableInputBody_of_named {m : Measurand} {src : OffsetSource} {i : Option (Fin 8)} (hm : measurandOf row = some m)
    (hs : sourceOf source = some src) (hi : inputOf input = some i) :
    tableInputBody row source input offset trip s =
      (writeInputRow m ⟨i, src, clampCode offset, clampCode trip⟩ s, takenResult (inputClamped offset trip)) := by
  simp [tableInputBody, bothOff, drum, pump, inputRowOf, hm, hs, hi]

end

theorem motorOff_pump_iff (s : State) : motorOff .pump s = true ↔ s.pump.state = .off := by simp [motorOff]

theorem rowOf_eq_some {n : Nat} {row : BitVec 4} {i : Fin n} (h : row.toNat = i.val) : rowOf n row = some i := by
  simp [rowOf, h]

theorem startIndexOf_eq_some {b : BitVec 3} {i : Fin 6} (h : b.toNat = i.val) : startIndexOf b = some i := by
  simp [startIndexOf, h]

theorem CommutationRow.valid_iff (r : CommutationRow) :
    r.valid = true ↔ r.high ≠ r.low ∧ r.low ≠ r.floating ∧ r.high ≠ r.floating := by
  simp [CommutationRow.valid, and_assoc]

section
variable {s : State}

theorem tableCommutationBody_of_on (h : s.pump.state ≠ .off) (row : BitVec 4) (high low floating polarity : BitVec 2) :
    tableCommutationBody row high low floating polarity s = (s, .busy) :=
  if_neg (mt (motorOff_pump_iff s).1 h)

theorem tableProfileBody_of_on (h : s.pump.state ≠ .off) (f : ProfileFields) : tableProfileBody f s = (s, .busy) :=
  if_neg (mt (motorOff_pump_iff s).1 h)

theorem tableRampBody_of_on (h : s.pump.state ≠ .off) (row : BitVec 4) (interval : BitVec 24) (repeats : BitVec 8)
    (duty : Word) : tableRampBody row interval repeats duty s = (s, .busy) :=
  if_neg (mt (motorOff_pump_iff s).1 h)

theorem tableRampLengthBody_of_on (h : s.pump.state ≠ .off) (length : BitVec 5) :
    tableRampLengthBody length s = (s, .busy) :=
  if_neg (mt (motorOff_pump_iff s).1 h)

variable (off : s.pump.state = .off)
include off

theorem tableCommutationBody_of_bad {row : BitVec 4} {high low floating polarity : BitVec 2}
    (h : 6 ≤ row.toNat ∨ commutationRowOf high low floating polarity = none) :
    tableCommutationBody row high low floating polarity s = (s, .badArgument) := by
  rw [tableCommutationBody, if_pos ((motorOff_pump_iff s).2 off)]
  rcases h with h | h
  · simp [rowOf, Nat.not_lt.2 h]
  · cases rowOf 6 row <;> simp [h]

theorem tableCommutationBody_of_named {row : BitVec 4} {high low floating polarity : BitVec 2} {i : Fin 6}
    {r : CommutationRow} (hi : row.toNat = i.val) (hr : commutationRowOf high low floating polarity = some r) :
    tableCommutationBody row high low floating polarity s =
      if r.valid then (s.withComm { s.comm with table := s.comm.table.set i r }, .ok) else (s, .tableInvalid) := by
  rw [tableCommutationBody, if_pos ((motorOff_pump_iff s).2 off)]
  simp only [rowOf_eq_some hi, hr]

theorem tableProfileBody_of_bad {f : ProfileFields} (h : 6 ≤ f.startIndex.toNat) :
    tableProfileBody f s = (s, .badArgument) := by
  rw [tableProfileBody, if_pos ((motorOff_pump_iff s).2 off)]
  simp [startIndexOf, Nat.not_lt.2 h]

theorem tableProfileBody_of_named {f : ProfileFields} {i : Fin 6} (h : f.startIndex.toNat = i.val) :
    tableProfileBody f s =
      (s.withPump { s.pump with profile := clampProfile f i }, takenResult (profileClamped f)) := by
  rw [tableProfileBody, if_pos ((motorOff_pump_iff s).2 off)]
  simp only [startIndexOf_eq_some h]

theorem tableRampBody_of_off {row : BitVec 4} {i : Fin 16} (h : row.toNat = i.val) (interval : BitVec 24)
    (repeats : BitVec 8) (duty : Word) :
    tableRampBody row interval repeats duty s =
      (s.withPump { s.pump with ramp := s.pump.ramp.set i (clampRamp interval repeats duty) },
        takenResult (rampClamped interval repeats)) := by
  rw [tableRampBody, if_pos ((motorOff_pump_iff s).2 off)]
  simp only [rowOf_eq_some h]

theorem tableRampLengthBody_of_off (length : BitVec 5) :
    tableRampLengthBody length s =
      (s.withPump { s.pump with rampLength := clampTo 1 16 length.toNat }, takenResult (outside 1 16 length.toNat)) :=
  if_pos ((motorOff_pump_iff s).2 off)

end

/-! ### The frames -/

/-- An INPUT row with an input is written and answered (R61). -/
theorem setResult_writeInputRow_of_input (r : Result) (fr : FrameInProgress) (m : Measurand) {row : InputRow}
    (h : row.input.isSome = true) (s : State) :
    setResult r (writeInputRow m row (endBreakRun (sentWhole fr s))) =
      { answered fr r s with sched := { s.sched with table := s.sched.table.set m.index row } } := by
  simp only [writeInputRow, h, if_true]
  exact setResult_withSched r fr _ s

/-- An INPUT row without an input is written and answered, and the requests of the measurand are lost (R61, R62). -/
theorem setResult_writeInputRow_of_none (r : Result) (fr : FrameInProgress) (m : Measurand) {row : InputRow}
    (h : row.input = none) {s : State} (off : s.pump.state = .off) :
    let w := (s.sched.queue.filter fun q => decide (q.measurand = m)).foldl (fun u q => afterLost .unassigned q u) s
    setResult r (writeInputRow m row (endBreakRun (sentWhole fr s))) =
      { answered fr r s with
        sched :=
          { w.sched with
            table := s.sched.table.set m.index row
            queue := s.sched.queue.filter fun q => decide (q.measurand ≠ m) }
        recon := w.recon } := by
  intro w
  have lost := unassign_of_pumpOff (x := s)
    (s := (endBreakRun (sentWhole fr s)).withSched { s.sched with table := s.sched.table.set m.index row }) off rfl rfl m
  simp only [writeInputRow, h, Option.isSome_none]
  refine (congrArg (setResult r) lost).trans ?_
  rw [setResult_eq, endBreakRun_sentWhole]
  rfl

/-- Settles O56: each frame's body on the state that has sent its upstream frame, by the cases of the statement. -/
theorem tableFramesReplaceRows : Obligations.TableFramesReplaceRows := by
  unfold Obligations.TableFramesReplaceRows
  intro s fr receiving ready clamp result
  have refused : ∀ {b : Body} {r : Result}, b (endBreakRun (sentWhole fr s)) = (endBreakRun (sentWhole fr s), r) →
      (.next (decideFrame (whenReady b) s) : Answer State) = .next (answered fr r s) := fun h =>
    congrArg _ (decideFrame_of_refused receiving ready h)
  have taken : ∀ {b : Body} {r : Result} {t u : State}, b (endBreakRun (sentWhole fr s)) = (t, r) → setResult r t = u →
      (.next (decideFrame (whenReady b) s) : Answer State) = .next u := fun h hu =>
    congrArg _ ((decideFrame_of_taken receiving ready h).trans hu)
  refine ⟨fun row source input offset trip => ⟨fun on => ?_, fun drum pump bad => ?_, fun m src i drum pump hm hs hi => ?_⟩,
    fun row high low floating polarity =>
      ⟨fun on => ?_, fun off bad => ?_, fun r off hrow hr same => ?_, fun i r off hrow hr hl lf hf => ?_⟩,
    fun f => ⟨fun on => ?_, fun off bad => ?_, fun i off hrow => ?_⟩,
    fun row interval repeats duty => ⟨fun on => ?_, fun i off hrow => ?_⟩, fun length => ⟨fun on => ?_, fun off => ?_⟩⟩
  · exact refused (tableInputBody_of_on (s := endBreakRun (sentWhole fr s)) on row source input offset trip)
  · exact refused (tableInputBody_of_bad (s := endBreakRun (sentWhole fr s)) drum pump offset trip bad)
  · intro content r
    have body := tableInputBody_of_named (s := endBreakRun (sentWhole fr s)) drum pump offset trip hm hs hi
    rw [takenResult_of_not (inputClamped_eq_not offset trip)] at body
    refine ⟨_, taken body rfl, ?_⟩
    cases i with
    | some n =>
      rw [setResult_writeInputRow_of_input _ fr m rfl]
      exact ⟨rfl, rfl, rfl, rfl, fun _ => rfl, fun h => nomatch h⟩
    | none =>
      rw [setResult_writeInputRow_of_none _ fr m rfl pump]
      exact ⟨rfl, rfl, rfl, rfl, fun h => (nomatch h), fun _ => rfl⟩
  · exact refused (tableCommutationBody_of_on (s := endBreakRun (sentWhole fr s)) on row high low floating polarity)
  · exact refused (tableCommutationBody_of_bad (s := endBreakRun (sentWhole fr s)) off bad)
  · have invalid : ¬r.valid = true := fun h => by
      obtain ⟨hl, lf, hf⟩ := r.valid_iff.1 h
      rcases same with same | same | same
      · exact hl same
      · exact lf same
      · exact hf same
    have body := tableCommutationBody_of_named (s := endBreakRun (sentWhole fr s)) off (i := ⟨row.toNat, hrow⟩) rfl hr
    exact refused (body.trans (if_neg invalid))
  · have body := tableCommutationBody_of_named (s := endBreakRun (sentWhole fr s)) off hrow hr
    exact taken (body.trans (if_pos (r.valid_iff.2 ⟨hl, lf, hf⟩))) (setResult_withComm .ok fr _ s)
  · exact refused (tableProfileBody_of_on (s := endBreakRun (sentWhole fr s)) on f)
  · exact refused (tableProfileBody_of_bad (s := endBreakRun (sentWhole fr s)) off bad)
  · have body := tableProfileBody_of_named (s := endBreakRun (sentWhole fr s)) off hrow
    rw [takenResult_of_not (profileClamped_eq_not f i)] at body
    exact taken body (setResult_withPump _ fr _ s)
  · exact refused (tableRampBody_of_on (s := endBreakRun (sentWhole fr s)) on row interval repeats duty)
  · have body := tableRampBody_of_off (s := endBreakRun (sentWhole fr s)) off hrow interval repeats duty
    rw [takenResult_of_not (rampClamped_eq_not interval repeats)] at body
    exact taken body (setResult_withPump _ fr _ s)
  · exact refused (tableRampLengthBody_of_on (s := endBreakRun (sentWhole fr s)) on length)
  · have body := tableRampLengthBody_of_off (s := endBreakRun (sentWhole fr s)) off length
    rw [takenResult_of_not (outside_eq_not 1 16 length.toNat)] at body
    exact taken body (setResult_withPump _ fr _ s)

end Sys2Proof.Machine
end

section
/-! PROOFS. The close of a period entry (R73 to R78, R81, R82): its records, and its currents and runs. -/

namespace Sys2Proof.Machine

/-! ### Records that join a queue with room (R157) -/

theorem joinRecord_records_of_room (r : Record) {s : State} (room : s.rq.records.length < 32) :
    (joinRecord r s).rq.records = s.rq.records ++ [r] := by
  simp [joinRecord, Config.recordCapacity, room]

theorem joinNotice_records_of_room (n : Notice) {s : State} (room : s.rq.records.length < 32) :
    (joinNotice n s).rq.records = s.rq.records ++ [.notice n (stampPeriod s) (stampOffset s)] :=
  joinRecord_records_of_room _ room

/-- The DRUM record reads the currents, the bus-high episode and dry run (R81). -/
theorem drumRecord_congr (e : PeriodEntry) (fresh : Bool) {s t : State} (recon : s.recon = t.recon)
    (drum : s.drum = t.drum) : drumRecord e fresh s = drumRecord e fresh t := by
  simp only [drumRecord, recon, drum]

theorem reportPeriod_records (e : PeriodEntry) (fresh : Bool) {s : State} (room : s.rq.records.length < 32) :
    (reportPeriod e fresh s).rq.records =
      s.rq.records ++
        if s.drum.report = true ∧ e.period.toNat % s.setup.divider = 0 then
          [.drum (drumRecord e fresh (reportPeriod e fresh s))] else [] := by
  rw [drumRecord_congr e fresh (t := s) (by simp) (by simp)]
  unfold reportPeriod
  split
  · exact joinRecord_records_of_room _ room
  · simp

theorem blindNotice_records (e : PeriodEntry) (sixteenth : Bool) {s : State} (room : s.rq.records.length < 32) :
    (blindNotice e sixteenth s).rq.records =
      s.rq.records ++
        if sixteenth then [.notice (.drumBlind e.period) (stampPeriod s) (stampOffset s)] else [] := by
  unfold blindNotice
  split
  · exact joinNotice_records_of_room _ room
  · simp

/-! ### FRESH and HELD (R74, R75) -/

/-- Both windows gave a code (R74). -/
def PeriodEntry.isFresh (e : PeriodEntry) : Bool :=
  match e.window1, e.window2 with
  | .code _ _, .code _ _ => true
  | _, _ => false

theorem closePeriod_of_codes {e : PeriodEntry} {raw1 raw2 : Code} {v1 v2 : Int} (code1 : e.window1 = .code raw1 v1)
    (code2 : e.window2 = .code raw2 v2) (s : State) : closePeriod e s = closeFresh e raw1 raw2 v1 v2 s := by
  simp only [closePeriod, code1, code2]

theorem PeriodEntry.isFresh_of_missing {e : PeriodEntry}
    (missing : (∀ raw v, e.window1 ≠ .code raw v) ∨ (∀ raw v, e.window2 ≠ .code raw v)) : e.isFresh = false := by
  unfold PeriodEntry.isFresh
  split
  case h_1 raw1 v1 raw2 v2 code1 code2 =>
    rcases missing with missing | missing
    · exact absurd code1 (missing raw1 v1)
    · exact absurd code2 (missing raw2 v2)
  case h_2 => rfl

theorem closePeriod_of_held {e : PeriodEntry} (held : e.isFresh = false) (s : State) :
    closePeriod e s = closeHeld e s := by
  unfold PeriodEntry.isFresh at held
  unfold closePeriod
  split
  case h_1 code1 code2 => simp [code1, code2] at held
  case h_2 => rfl

/-- An entry is closed as FRESH with the codes of both windows, or as HELD. -/
theorem closePeriod_cases (e : PeriodEntry) :
    (e.isFresh = true ∧ ∃ raw1 v1 raw2 v2, ∀ s, closePeriod e s = closeFresh e raw1 raw2 v1 v2 s) ∨
    (e.isFresh = false ∧ ∀ s, closePeriod e s = closeHeld e s) := by
  cases fresh : e.isFresh with
  | true =>
    unfold PeriodEntry.isFresh at fresh
    split at fresh
    case h_1 raw1 v1 raw2 v2 code1 code2 => exact .inl ⟨rfl, raw1, v1, raw2, v2, closePeriod_of_codes code1 code2⟩
    case h_2 => cases fresh
  | false => exact .inr ⟨rfl, closePeriod_of_held fresh⟩

/-- The currents and runs that the close of a FRESH period leaves (R74, R76, R78). -/
theorem closeFresh_recon (e : PeriodEntry) (raw1 raw2 : Code) (v1 v2 : Int) (s : State) :
    (closeFresh e raw1 raw2 v1 v2 s).recon =
      { s.recon with
        lastFresh := (rebuildCurrents e.plan.ranking v1 v2).map clampCurrent
        overRun :=
          if periodOver (inputRow .drumShunt s).trip (rebuildCurrents e.plan.ranking v1 v2) raw1 raw2 then
            min (s.recon.overRun + 1) 3
          else 0
        heldRun := 0 } := by
  simp [closeFresh, runUp]

/-- A HELD period counts, and nothing else moves in the reconstructor (R75, R78). -/
theorem closeHeld_recon (e : PeriodEntry) (s : State) :
    (closeHeld e s).recon = { s.recon with heldRun := min (s.recon.heldRun + 1) 16 } := by
  simp [closeHeld, runUp]

/-- The close of the period entry leaves the house entry and the bus-high episode (R79, R84). -/
theorem closePeriod_recon_kept (e : PeriodEntry) (s : State) :
    (closePeriod e s).recon.houseEntry = s.recon.houseEntry ∧
    (closePeriod e s).recon.busHighActive = s.recon.busHighActive := by
  rcases closePeriod_cases e with ⟨-, raw1, v1, raw2, v2, closed⟩ | ⟨-, closed⟩
  · simp [closed, closeFresh_recon]
  · simp [closed, closeHeld_recon]

/-! ### The records of a close (R78, R81, R82) -/

theorem closeFresh_records (e : PeriodEntry) (raw1 raw2 : Code) (v1 v2 : Int) {s : State}
    (room : s.rq.records.length < 32) :
    (closeFresh e raw1 raw2 v1 v2 s).rq.records =
      s.rq.records ++
        if s.drum.report = true ∧ e.period.toNat % s.setup.divider = 0 then
          [.drum (drumRecord e true (closeFresh e raw1 raw2 v1 v2 s))] else [] :=
  reportPeriod_records e true (s := s.withRecon _) room

/-- DRUM_BLIND joins after the DRUM record, with the stamp of the same tick (R78, R163). -/
theorem closeHeld_records (e : PeriodEntry) {s : State} (room : s.rq.records.length + 2 ≤ 32) :
    (closeHeld e s).rq.records =
      s.rq.records ++
        (if s.drum.report = true ∧ e.period.toNat % s.setup.divider = 0 then
          [.drum (drumRecord e false (closeHeld e s))] else []) ++
        (if s.recon.heldRun = 15 then [.notice (.drumBlind e.period) (stampPeriod s) (stampOffset s)] else []) := by
  unfold closeHeld
  generalize hu : reportPeriod e false (s.withRecon { s.recon with heldRun := runUp 16 s.recon.heldRun }) = u
  have reported : u.rq.records = s.rq.records ++
      if s.drum.report = true ∧ e.period.toNat % s.setup.divider = 0 then [.drum (drumRecord e false u)] else [] := by
    subst hu
    exact reportPeriod_records e false (s := s.withRecon _) (by simp only [State.withRecon_rq]; omega)
  have roomLeft : u.rq.records.length < 32 := by
    rw [reported, List.length_append]
    split <;> simp <;> omega
  obtain ⟨period, offset⟩ := stamp_congr (s := u) (t := s) (by simp [← hu]) (by simp [← hu])
  rw [blindNotice_records e _ roomLeft, period, offset, drumRecord_congr e false (t := u) (by simp) (by simp), reported]
  simp only [decide_eq_true_eq]

theorem closePeriod_records (e : PeriodEntry) {s : State} (room : s.rq.records.length + 2 ≤ 32) :
    (closePeriod e s).rq.records =
      s.rq.records ++
        (if s.drum.report = true ∧ e.period.toNat % s.setup.divider = 0 then
          [.drum (drumRecord e e.isFresh (closePeriod e s))] else []) ++
        (if e.isFresh = false ∧ s.recon.heldRun = 15 then
          [.notice (.drumBlind e.period) (stampPeriod s) (stampOffset s)] else []) := by
  rcases closePeriod_cases e with ⟨fresh, raw1, v1, raw2, v2, closed⟩ | ⟨held, closed⟩
  · simp [closed, fresh, closeFresh_records e raw1 raw2 v1 v2 (s := s) (by omega)]
  · simp [closed, held, closeHeld_records e room]

/-! ### The DRUM record in the words of R81 -/

theorem HouseSlot.present_eq (w : HouseSlot) :
    w.present = match w with
      | .value v => some v
      | _ => none := by
  cases w <;> rfl

theorem WindowSlot.isLost_eq (w : WindowSlot) :
    w.isLost = match w with
      | .lost _ => true
      | .awaited => true
      | _ => false := by
  cases w <;> rfl

/-- Settles O29: the records of a close, and the DRUM record field by field. -/
theorem closeWritesDrumRecord : Obligations.CloseWritesDrumRecord := by
  unfold Obligations.CloseWritesDrumRecord
  intro s e room t fresh record
  have written : drumRecord e e.isFresh t = record := by
    simp only [drumRecord, HouseSlot.present_eq, WindowSlot.isLost_eq, WindowSlot.isShort, record, t,
      (closePeriod_recon_kept e s).2, closePeriod_kept]
    rfl
  rw [← written]
  exact closePeriod_records e room

end Sys2Proof.Machine
end

section
/-! PROOFS. What the rest of a drum period start leaves of the close of the period entry (R73 to R78, R97) and of the
HOUSE record (R84), in whatever order `PeriodOrder` gives. -/

namespace Sys2Proof.Machine

/-! ### The drum at the parts of a period start -/

theorem drumPermitLost_safe_or_kept (s : State) :
    (drumPermitLost s).drum.state = .safe ∨ (drumPermitLost s).drum = s.drum := by
  unfold drumPermitLost
  split <;> rename_i h
  case h_1 =>
    split
    · exact .inr rfl
    · exact .inl (by simp)
  case h_2 => exact .inl h
  all_goals exact .inr rfl

theorem takePermit_safe_or_kept (sample : Bool) (first : Motor) (s : State) :
    (takePermit sample first s).drum.state = .safe ∨ (takePermit sample first s).drum = s.drum := by
  rcases takePermit_drum_eq sample first s with same | ⟨u, hu, lost⟩
  · exact .inr same
  · rw [lost, ← hu]
    exact drumPermitLost_safe_or_kept u

theorem drumOvercurrent_safe_or_eq (s : State) :
    (drumOvercurrent s).drum.state = .safe ∨ drumOvercurrent s = s := by
  unfold drumOvercurrent
  split
  · exact .inl (by simp)
  · exact .inr rfl

/-- The calibration of a period start ends in SAFE or leaves the drum's state (R85). -/
theorem calibrateDrum_state (s : State) :
    (calibrateDrum s).drum.state = .safe ∨ (calibrateDrum s).drum.state = s.drum.state := by
  unfold calibrateDrum
  split
  · split
    · exact .inl (by simp)
    · exact .inr (by simp)
  · exact .inr rfl

theorem takeStop_of_none {s : State} (h : s.drum.stopPending = none) : takeStop s = s := by
  unfold takeStop
  split
  case h_1 stop => cases h.symm.trans stop
  case h_2 => rfl

theorem takeStop_of_ne_run {s : State} (h : s.drum.state ≠ .run) : takeStop s = s := by
  unfold takeStop
  split
  case h_1 run _ => exact absurd run h
  case h_2 => rfl

theorem enterRun_of_ne_ready {s : State} (h : s.drum.state ≠ .ready) : enterRun s = s := if_neg fun ready => h ready.1

/-! ### The reconstructor, its entries aside -/

/-- The currents, runs and episodes of the reconstructor, without the open entries. -/
def Reconstructor.withoutEntries (r : Reconstructor) : Reconstructor := { r with periodEntry := none, houseEntry := none }

theorem runs_of_withoutEntries {r r' : Reconstructor} (h : r.withoutEntries = r'.withoutEntries) :
    r.lastFresh = r'.lastFresh ∧ r.overRun = r'.overRun ∧ r.heldRun = r'.heldRun :=
  ⟨congrArg (fun x => x.lastFresh) h, congrArg (fun x => x.overRun) h, congrArg (fun x => x.heldRun) h⟩

theorem withoutEntries_periodEntry (r : Reconstructor) (e : Option PeriodEntry) :
    { r with periodEntry := e }.withoutEntries = r.withoutEntries := rfl

theorem withoutEntries_houseEntry (r : Reconstructor) (e : Option HouseEntry) :
    { r with houseEntry := e }.withoutEntries = r.withoutEntries := rfl

theorem drumPermitLost_recon (s : State) : ∃ e, (drumPermitLost s).recon = { s.recon with periodEntry := e } := by
  unfold drumPermitLost
  split
  case h_1 =>
    split
    · exact ⟨_, rfl⟩
    · exact ⟨_, enterDrumSafe_recon _ s⟩
  all_goals exact ⟨s.recon.periodEntry, by simp⟩

/-- A change of the permit reaches the period entry alone, at an entry to SAFE (R73). -/
theorem takePermit_recon (sample : Bool) (first : Motor) (s : State) :
    ∃ e, (takePermit sample first s).recon = { s.recon with periodEntry := e } := by
  have pump : ∀ u, (pumpPermitLost u).recon = u.recon := by simp
  simp only [takePermit, permitChanged]
  split
  · exact ⟨_, rfl⟩
  · split
    · exact ⟨s.recon.periodEntry, by simp⟩
    · cases first with
      | drum =>
        obtain ⟨e, recon⟩ := drumPermitLost_recon _
        exact ⟨e, (pump _).trans (recon.trans (by simp))⟩
      | pump =>
        obtain ⟨e, recon⟩ := drumPermitLost_recon (pumpPermitLost _)
        exact ⟨e, recon.trans (by simp)⟩

@[simp] theorem takePermit_withoutEntries (sample : Bool) (first : Motor) (s : State) :
    (takePermit sample first s).recon.withoutEntries = s.recon.withoutEntries := by
  obtain ⟨e, recon⟩ := takePermit_recon sample first s
  rw [recon, withoutEntries_periodEntry]

@[simp] theorem drumOvercurrent_withoutEntries (s : State) :
    (drumOvercurrent s).recon.withoutEntries = s.recon.withoutEntries := by
  unfold drumOvercurrent
  split
  · rw [enterDrumSafe_recon, withoutEntries_periodEntry]
  · rfl

@[simp] theorem openHouse_withoutEntries (s : State) :
    (openHouse s).recon.withoutEntries = s.recon.withoutEntries := by
  unfold openHouse
  split
  · exact withoutEntries_houseEntry _ _
  · rfl

@[simp] theorem closeHouse_withoutEntries (s : State) :
    (closeHouse s).recon.withoutEntries = s.recon.withoutEntries := by
  unfold closeHouse
  split
  · rfl
  · simp [Reconstructor.withoutEntries]

@[simp] theorem makeRequest_withoutEntries (r : Request) (s : State) :
    (makeRequest r s).recon.withoutEntries = s.recon.withoutEntries := by
  unfold makeRequest
  split
  · cases found : s.sched.queue.find? r.sameKey with
    | none =>
      by_cases room : s.sched.queue.length < 8
      · rw [joinRequest_of_room found room]
        rfl
      · rw [joinRequest_of_full found (not_lt.1 room)]
        rfl
    | some old =>
      rw [joinRequest_of_sameKey found]
      rfl
  · rfl

@[simp] theorem houseRequests_withoutEntries (s : State) :
    (houseRequests s).recon.withoutEntries = s.recon.withoutEntries := by
  simp only [houseRequests]
  split <;> simp

@[simp] theorem planRequest_withoutEntries (window : Nat) (span : Option RequestSpan) (s : State) :
    (planRequest window span s).recon.withoutEntries = s.recon.withoutEntries := by
  unfold planRequest
  split <;> simp

@[simp] theorem openPeriodEntry_withoutEntries (p : Plan) (s : State) :
    (openPeriodEntry p s).recon.withoutEntries = s.recon.withoutEntries := rfl

@[simp] theorem applyPlan_withoutEntries (s : State) :
    (applyPlan s).recon.withoutEntries = s.recon.withoutEntries := by
  simp only [applyPlan]
  split
  · split <;> simp
  · rfl

@[simp] theorem calibrateDrum_withoutEntries (s : State) :
    (calibrateDrum s).recon.withoutEntries = s.recon.withoutEntries := by
  unfold calibrateDrum drumCalibrationRequest
  split
  · split
    · rw [enterDrumSafe_recon, withoutEntries_periodEntry]
    · simp
  · rfl

/-! ### The drum period start after the close -/

/-- The drum period start up to the close of the entry of the period ending. -/
def upToClose (permit : Bool) (o : PeriodOrder) (s : State) : State :=
  takeIf o.stopFirst takeStop
    (takeIf (decide (o.permitTurn = .beforeClose)) (takePermit permit o.first) (beginDrumPeriod s))

/-- The drum period start up to the close of both entries. -/
def upToClosed (permit : Bool) (o : PeriodOrder) (s : State) : State :=
  closeHouse (closeEnding s.recon.periodEntry (upToClose permit o s))

/-- The close of the entry of the period ending takes a drum in RUN to SAFE (R76). -/
def tripsAtClose (permit : Bool) (o : PeriodOrder) (s : State) : Bool :=
  decide (s.drum.state = .run) && endingTrips s.recon.periodEntry (upToClose permit o s)

/-- What every part of a drum period start but the close keeps, where an OVERCURRENT may turn it from `p false` into
`p true`. -/
structure KeptByPeriodStart (p : Bool → State → Prop) : Prop where
  permit : ∀ sample first b s, p b s → p b (takePermit sample first s)
  stop : ∀ b s, p b s → p b (takeStop s)
  run : ∀ b s, p b s → p b (enterRun s)
  openHouse : ∀ b s, p b s → p b (openHouse s)
  house : ∀ b s, p b s → p b (houseRequests s)
  plan : ∀ b s, p b s → p b (applyPlan s)
  calibrate : ∀ b s, p b s → p b (calibrateDrum s)
  trip : ∀ b s, p b s → p true (drumOvercurrent s)

theorem KeptByPeriodStart.takeTrip {p : Bool → State → Prop} (kept : KeptByPeriodStart p) (b c : Bool) {s : State}
    (h : p b s) : p (b || c) (takeIf c drumOvercurrent s) := by
  cases c with
  | true =>
    rw [Bool.or_true]
    exact kept.trip b s h
  | false =>
    rw [Bool.or_false]
    exact h

theorem KeptByPeriodStart.upToClose {p : Bool → State → Prop} (kept : KeptByPeriodStart p) (permit : Bool)
    (o : PeriodOrder) {b : Bool} {s : State} (h : p b (beginDrumPeriod s)) : p b (upToClose permit o s) :=
  takeIf_keeps (kept.stop b) _ (takeIf_keeps (kept.permit permit o.first b) _ h)

/-- What is kept by its parts holds after the period start if it holds when the entries are closed. -/
theorem KeptByPeriodStart.afterClosed {p : Bool → State → Prop} (kept : KeptByPeriodStart p) (permit : Bool)
    (o : PeriodOrder) {b : Bool} {s : State} (closed : p b (upToClosed permit o s)) :
    p (b || tripsAtClose permit o s) (drumPeriodStart permit o s) := by
  have turn : ∀ {b} (x : PermitTurn) {u}, p b u →
      p b (takeIf (decide (o.permitTurn = x)) (takePermit permit o.first) u) :=
    fun x => takeIf_keeps (kept.permit permit o.first _) _
  have tripped := kept.takeTrip b (tripsAtClose permit o s && o.tripFirst) (turn .beforeEntry closed)
  have entered := kept.openHouse _ _ (kept.run _ _ (kept.stop _ _ tripped))
  have planned := kept.plan _ _ (turn .afterEntry (takeIf_keeps (kept.house _) o.houseFirst entered))
  have calibrated := kept.calibrate _ _ (takeIf_keeps (kept.house _) (!o.houseFirst) planned)
  have done := turn .afterTrip
    (kept.takeTrip _ (tripsAtClose permit o s && !o.tripFirst) (turn .afterPlan calibrated))
  have trips : (b || tripsAtClose permit o s && o.tripFirst || tripsAtClose permit o s && !o.tripFirst) =
      (b || tripsAtClose permit o s) := by
    cases o.tripFirst <;> simp
  rw [trips] at done
  exact done

/-! ### What the close leaves stands (R74 to R78) -/

/-- The reconstructor stands as `r` but for the entries, and the drum is not in READY, from where it would enter RUN with
zero currents (R75); an OVERCURRENT makes no difference to that. -/
def ClosedAs (r : Reconstructor) (_ : Bool) (s : State) : Prop :=
  s.recon.withoutEntries = r.withoutEntries ∧ s.drum.state ≠ .ready

theorem ClosedAs.of_state {r : Reconstructor} {b c : Bool} {s t : State} (h : ClosedAs r b s)
    (recon : t.recon.withoutEntries = s.recon.withoutEntries)
    (state : t.drum.state = .safe ∨ t.drum.state = s.drum.state) : ClosedAs r c t := by
  refine ⟨recon.trans h.1, ?_⟩
  rcases state with safe | same
  · simp [safe]
  · exact same ▸ h.2

theorem closedAs_kept (r : Reconstructor) : KeptByPeriodStart (ClosedAs r) where
  permit sample first _ s h :=
    h.of_state (by simp) ((takePermit_safe_or_kept sample first s).imp_right fun same => by rw [same])
  stop _ s h := by
    refine ⟨by simpa using h.1, ?_⟩
    unfold takeStop
    split
    case h_1 k _ _ => cases k <;> simp [StopKind.target]
    case h_2 => exact h.2
  run _ s h := by rwa [enterRun_of_ne_ready h.2]
  openHouse _ s h := h.of_state (by simp) (.inr (by simp))
  house _ s h := h.of_state (by simp) (.inr (by simp))
  plan _ s h := h.of_state (by simp) (.inr (by simp))
  calibrate _ s h := h.of_state (by simp) (calibrateDrum_state s)
  trip _ s h := h.of_state (by simp) ((drumOvercurrent_safe_or_eq s).imp_right fun same => by rw [same])

/-! ### OVERCURRENT (R76, R77, R97) -/

/-- The drum is in SAFE or, until an OVERCURRENT, in RUN with no stop pending. -/
def RunningUntilTrip (tripped : Bool) (s : State) : Prop :=
  s.drum.state = .safe ∨ (tripped = false ∧ s.drum.state = .run ∧ s.drum.stopPending = none)

theorem RunningUntilTrip.of_drum {b : Bool} {s t : State} (h : RunningUntilTrip b s)
    (drum : t.drum.state = .safe ∨ t.drum = s.drum) : RunningUntilTrip b t := by
  rcases drum with safe | same
  · exact .inl safe
  · unfold RunningUntilTrip
    rwa [same]

theorem RunningUntilTrip.ne_ready_offset {b : Bool} {s : State} (h : RunningUntilTrip b s) :
    s.drum.state ≠ .ready ∧ s.drum.state ≠ .offset := by
  rcases h with safe | ⟨-, run, -⟩
  · simp [safe]
  · simp [run]

theorem RunningUntilTrip.takeStop_eq {b : Bool} {s : State} (h : RunningUntilTrip b s) : takeStop s = s := by
  rcases h with safe | ⟨-, -, stop⟩
  · exact takeStop_of_ne_run (by simp [safe])
  · exact takeStop_of_none stop

theorem runningUntilTrip_kept : KeptByPeriodStart RunningUntilTrip where
  permit sample first _ s h := h.of_drum (takePermit_safe_or_kept sample first s)
  stop _ s h := by rwa [h.takeStop_eq]
  run _ s h := by rwa [enterRun_of_ne_ready h.ne_ready_offset.1]
  openHouse _ s h := h.of_drum (.inr (by simp))
  house _ s h := h.of_drum (.inr (by simp))
  plan _ s h := h.of_drum (.inr (by simp))
  calibrate _ s h := by rwa [calibrateDrum, if_neg h.ne_ready_offset.2]
  trip _ s h := by
    rcases h with safe | ⟨-, run, -⟩
    · rw [drumOvercurrent_of_ne_run (by simp [safe])]
      exact .inl safe
    · exact .inl (by simp [drumOvercurrent, run])

/-! ### The reconstructor at the close -/

theorem upToClose_inputRow (m : Measurand) (permit : Bool) (o : PeriodOrder) (s : State) :
    inputRow m (upToClose permit o s) = inputRow m s := by
  simp [inputRow, upToClose]

/-- Up to the close only the period entry has been taken out of the reconstructor (R71). -/
theorem upToClose_recon (permit : Bool) (o : PeriodOrder) (s : State) :
    ∃ e, (upToClose permit o s).recon = { s.recon with periodEntry := e } := by
  have turned : ∃ e, (takeIf (decide (o.permitTurn = .beforeClose)) (takePermit permit o.first)
      (beginDrumPeriod s)).recon = { s.recon with periodEntry := e } := by
    unfold takeIf
    split
    · exact takePermit_recon permit o.first (beginDrumPeriod s)
    · exact ⟨none, rfl⟩
  obtain ⟨e, turned⟩ := turned
  refine ⟨e, ?_⟩
  rw [← turned]
  simp [upToClose]

/-- A FRESH period is over, in the words of R76. -/
theorem periodOver_iff (trip : Code) (i : PerPhase Int) (raw1 raw2 : Code) :
    periodOver trip i raw1 raw2 = true ↔
      (trip.toNat ≠ 0 ∧ (trip.toNat < i.a.natAbs ∨ trip.toNat < i.b.natAbs ∨ trip.toNat < i.c.natAbs)) ∨
      raw1 = 0 ∨ raw1 = 4095 ∨ raw2 = 0 ∨ raw2 = 4095 := by
  have zero : trip = 0#12 ↔ trip.toNat = 0 := by
    rw [BitVec.toNat_eq]
    rfl
  simp [periodOver, endCode, zero, or_assoc]

theorem closeTrips_of_codes {e : PeriodEntry} {raw1 raw2 : Code} {v1 v2 : Int} (code1 : e.window1 = .code raw1 v1)
    (code2 : e.window2 = .code raw2 v2) {s : State}
    (tripping : periodOver (inputRow .drumShunt s).trip (rebuildCurrents e.plan.ranking v1 v2) raw1 raw2 = true)
    (third : 2 ≤ s.recon.overRun) : closeTrips e s = true := by
  have run : runUp 3 s.recon.overRun = 3 := by
    unfold runUp
    omega
  simp [closeTrips, code1, code2, tripping, run]

/-- The currents and runs that the close left stand at the end of the period start of a drum in RUN or SAFE. -/
theorem drumPeriodStart_closedAs (permit : Bool) (o : PeriodOrder) {s : State} {e : PeriodEntry}
    (entry : s.recon.periodEntry = some e) (state : s.drum.state = .run ∨ s.drum.state = .safe) :
    (drumPeriodStart permit o s).recon.withoutEntries =
      (closePeriod e (upToClose permit o s)).recon.withoutEntries := by
  have ready : s.drum.state ≠ .ready := by
    rcases state with run | safe
    · simp [run]
    · simp [safe]
  have begun : ClosedAs s.recon false (beginDrumPeriod s) := ⟨rfl, ready⟩
  have closing := (closedAs_kept s.recon).upToClose permit o begun
  have closed : ClosedAs (closePeriod e (upToClose permit o s)).recon false (upToClosed permit o s) := by
    refine ⟨?_, ?_⟩
    · simp [upToClosed, entry, closeEnding]
    · simpa [upToClosed] using closing.2
  exact ((closedAs_kept _).afterClosed permit o closed).1

theorem drumPeriodStart_fresh (permit : Bool) (o : PeriodOrder) {s : State} {e : PeriodEntry}
    (entry : s.recon.periodEntry = some e) (state : s.drum.state = .run ∨ s.drum.state = .safe) {raw1 raw2 : Code}
    {v1 v2 : Int} (code1 : e.window1 = .code raw1 v1) (code2 : e.window2 = .code raw2 v2) :
    let i := rebuildCurrents e.plan.ranking v1 v2
    let t := drumPeriodStart permit o s
    t.recon.lastFresh = i.map clampCurrent ∧
    t.recon.overRun =
      (if periodOver (inputRow .drumShunt s).trip i raw1 raw2 then min (s.recon.overRun + 1) 3 else 0) ∧
    t.recon.heldRun = 0 := by
  intro i t
  have closed := drumPeriodStart_closedAs permit o entry state
  obtain ⟨x, recon⟩ := upToClose_recon permit o s
  rw [closePeriod_of_codes code1 code2, closeFresh_recon, upToClose_inputRow, recon] at closed
  exact runs_of_withoutEntries closed

theorem drumPeriodStart_held (permit : Bool) (o : PeriodOrder) {s : State} {e : PeriodEntry}
    (entry : s.recon.periodEntry = some e) (state : s.drum.state = .run ∨ s.drum.state = .safe)
    (missing : (∀ raw v, e.window1 ≠ .code raw v) ∨ (∀ raw v, e.window2 ≠ .code raw v)) :
    let t := drumPeriodStart permit o s
    t.recon.lastFresh = s.recon.lastFresh ∧ t.recon.overRun = s.recon.overRun ∧
    t.recon.heldRun = min (s.recon.heldRun + 1) 16 := by
  intro t
  have closed := drumPeriodStart_closedAs permit o entry state
  obtain ⟨x, recon⟩ := upToClose_recon permit o s
  rw [closePeriod_of_held (PeriodEntry.isFresh_of_missing missing), closeHeld_recon, recon] at closed
  exact runs_of_withoutEntries closed

/-- The third close in a row over the trip takes a drum in RUN with no stop pending to SAFE, whatever the order; SAFE
stays (R76, R77). -/
theorem drumPeriodStart_trips (permit : Bool) (o : PeriodOrder) {s : State} {e : PeriodEntry}
    (entry : s.recon.periodEntry = some e) (state : s.drum.state = .run ∨ s.drum.state = .safe)
    (stop : s.drum.stopPending = none) {raw1 raw2 : Code} {v1 v2 : Int} (code1 : e.window1 = .code raw1 v1)
    (code2 : e.window2 = .code raw2 v2)
    (tripping : periodOver (inputRow .drumShunt s).trip (rebuildCurrents e.plan.ranking v1 v2) raw1 raw2 = true)
    (third : 2 ≤ s.recon.overRun) : (drumPeriodStart permit o s).drum.state = .safe := by
  have trips : closeTrips e (upToClose permit o s) = true := by
    obtain ⟨x, recon⟩ := upToClose_recon permit o s
    exact closeTrips_of_codes code1 code2 (by rwa [upToClose_inputRow]) (by rwa [recon])
  have closed : ∀ {b}, RunningUntilTrip b (beginDrumPeriod s) → RunningUntilTrip b (upToClosed permit o s) :=
    fun begun => (runningUntilTrip_kept.upToClose permit o begun).of_drum (.inr (by simp [upToClosed]))
  have safe : RunningUntilTrip true (drumPeriodStart permit o s) := by
    rcases state with run | safe
    · have tripped : tripsAtClose permit o s = true := by simp [tripsAtClose, endingTrips, entry, run, trips]
      have after := runningUntilTrip_kept.afterClosed permit o (closed (b := false) (.inr ⟨rfl, run, stop⟩))
      rwa [tripped] at after
    · exact runningUntilTrip_kept.afterClosed permit o (closed (b := true) (.inl safe))
  simpa [RunningUntilTrip] using safe

/-! ### How many records join -/

/-- At most `n` records join, behind those that wait, in a queue with room for them (R157). -/
def RecordsJoin (n : Nat) (s t : State) : Prop :=
  s.rq.records.length + n ≤ 32 → ∃ l, l.length ≤ n ∧ t.rq.records = s.rq.records ++ l

namespace RecordsJoin
variable {m n : Nat} {s t u : State}

theorem of_rq (h : t.rq = s.rq) : RecordsJoin n s t := fun _ => ⟨[], Nat.zero_le n, by rw [h, List.append_nil]⟩

theorem after (rq : t.rq = s.rq) (h : RecordsJoin n t u) : RecordsJoin n s u := by
  unfold RecordsJoin
  rw [← rq]
  exact h

theorem trans (h : RecordsJoin m s t) (k : RecordsJoin n t u) : RecordsJoin (m + n) s u := by
  intro room
  obtain ⟨l, hl, first⟩ := h (by omega)
  obtain ⟨l', hl', second⟩ := k (by rw [first, List.length_append]; omega)
  exact ⟨l ++ l', by rw [List.length_append]; omega, by rw [second, first, List.append_assoc]⟩

theorem mono (h : RecordsJoin m s t) (le : m ≤ n) : RecordsJoin n s t := by
  intro room
  obtain ⟨l, hl, joined⟩ := h (by omega)
  exact ⟨l, hl.trans le, joined⟩

/-- A record in a queue with room is still there. -/
theorem mem {r : Record} (h : RecordsJoin n s t) (room : s.rq.records.length + n ≤ 32) (waits : r ∈ s.rq.records) :
    r ∈ t.rq.records := by
  obtain ⟨l, -, joined⟩ := h room
  rw [joined]
  exact List.mem_append_left l waits

theorem length_le (h : RecordsJoin n s t) (room : s.rq.records.length + n ≤ 32) :
    t.rq.records.length ≤ s.rq.records.length + n := by
  obtain ⟨l, hl, joined⟩ := h room
  rw [joined, List.length_append]
  omega

theorem takeIf {f : State → State} (h : ∀ s, RecordsJoin n s (f s)) (b : Bool) (s : State) :
    RecordsJoin (if b then n else 0) s (takeIf b f s) := by
  cases b with
  | true => exact h s
  | false => exact of_rq rfl

theorem takeIf_le {f : State → State} (h : ∀ s, RecordsJoin n s (f s)) (b : Bool) (s : State) :
    RecordsJoin n s (Machine.takeIf b f s) :=
  (takeIf h b s).mono (by split <;> omega)

end RecordsJoin

theorem joinRecord_joins (r : Record) {s t : State} (rq : t.rq = s.rq) : RecordsJoin 1 s (joinRecord r t) := by
  intro room
  rw [joinRecord_records_of_room r (by rw [rq]; omega), rq]
  exact ⟨[r], le_rfl, rfl⟩

theorem joinNotice_joins (n : Notice) {s t : State} (rq : t.rq = s.rq) : RecordsJoin 1 s (joinNotice n t) :=
  joinRecord_joins _ rq

theorem changeDrum_joins (st : DrumState) {s t : State} (rq : t.rq = s.rq) : RecordsJoin 1 s (changeDrum st t) :=
  joinNotice_joins _ (by simpa using rq)

theorem enterDrumSafe_joins (c : Cause) (s : State) : RecordsJoin 1 s (enterDrumSafe c s) := joinNotice_joins _ (by simp)

theorem enterPumpSafe_joins (c : Cause) (s : State) : RecordsJoin 1 s (enterPumpSafe c s) :=
  joinNotice_joins _ (by simp [stopPump])

theorem drumPermitLost_joins (s : State) : RecordsJoin 1 s (drumPermitLost s) := by
  unfold drumPermitLost
  split
  case h_1 =>
    split
    · exact .of_rq rfl
    · exact enterDrumSafe_joins _ s
  all_goals exact .of_rq (by simp)

theorem pumpPermitLost_joins (s : State) : RecordsJoin 1 s (pumpPermitLost s) := by
  unfold pumpPermitLost
  split
  case h_1 | h_2 | h_3 =>
    split
    · exact .of_rq rfl
    · exact enterPumpSafe_joins _ s
  all_goals exact .of_rq (by simp)

theorem takePermit_joins (sample : Bool) (first : Motor) (s : State) : RecordsJoin 2 s (takePermit sample first s) := by
  have motors : ∀ u, RecordsJoin 2 u (bothMotors first drumPermitLost pumpPermitLost u) := fun u => by
    cases first with
    | drum => exact (drumPermitLost_joins u).trans (pumpPermitLost_joins _)
    | pump => exact (pumpPermitLost_joins u).trans (drumPermitLost_joins _)
  simp only [takePermit, permitChanged]
  split
  · exact .of_rq rfl
  · split
    · exact .of_rq (by simp)
    · exact .after (by simp) (motors _)

theorem takeStop_joins (s : State) : RecordsJoin 1 s (takeStop s) := by
  unfold takeStop
  split
  · exact changeDrum_joins _ rfl
  · exact .of_rq rfl

theorem drumOvercurrent_joins (s : State) : RecordsJoin 1 s (drumOvercurrent s) := by
  unfold drumOvercurrent
  split
  · exact enterDrumSafe_joins _ s
  · exact .of_rq rfl

theorem enterRun_joins (s : State) : RecordsJoin 1 s (enterRun s) := by
  unfold enterRun
  split
  · split
    · exact changeDrum_joins _ rfl
    · exact enterDrumSafe_joins _ s
  · exact .of_rq rfl

theorem calibrateDrum_joins (s : State) : RecordsJoin 1 s (calibrateDrum s) := by
  unfold calibrateDrum
  split
  · split
    · exact enterDrumSafe_joins _ s
    · exact .of_rq (by simp)
  · exact .of_rq rfl

theorem closeEnding_joins (e : Option PeriodEntry) (s : State) : RecordsJoin 2 s (closeEnding e s) := by
  cases e with
  | none => exact .of_rq rfl
  | some e =>
    intro room
    refine ⟨_, ?_, (closePeriod_records e room).trans (List.append_assoc ..)⟩
    rw [List.length_append]
    split <;> split <;> simp

theorem closeHouse_joins (s : State) : RecordsJoin 1 s (closeHouse s) := by
  unfold closeHouse
  split
  · exact .of_rq rfl
  · exact joinRecord_joins _ rfl

/-! ### The HOUSE record (R84) -/

theorem closeHouse_writes {s : State} {e : HouseEntry} (entry : s.recon.houseEntry = some e) :
    Record.house ⟨e.period, e.bus.present, e.temp.present, e.aux.present⟩ ∈ (closeHouse s).rq.records := by
  simp only [closeHouse, entry]
  exact List.mem_of_getLast? (joinRecord_last _ _)

/-- Up to the close of the entries at most six records join: two for the permit, STATE, DRUM, DRUM_BLIND and HOUSE. -/
theorem upToClosed_joins (permit : Bool) (o : PeriodOrder) (s : State) : RecordsJoin 6 s (upToClosed permit o s) := by
  have begun : RecordsJoin 0 s (beginDrumPeriod s) := .of_rq rfl
  have turned := begun.trans (.takeIf_le (takePermit_joins permit o.first) (decide (o.permitTurn = .beforeClose)) _)
  have closing : RecordsJoin 3 s (upToClose permit o s) := turned.trans (.takeIf_le takeStop_joins o.stopFirst _)
  exact (closing.trans (closeEnding_joins _ _)).trans (closeHouse_joins _)

/-- The permit has one turn, so at most two records join for it after the close, and five for the rest. -/
theorem drumPeriodStart_joins (permit : Bool) (o : PeriodOrder) (s : State) :
    RecordsJoin 7 (upToClosed permit o s) (drumPeriodStart permit o s) := by
  have turn : ∀ (x : PermitTurn) u, RecordsJoin (if decide (o.permitTurn = x) then 2 else 0) u
      (takeIf (decide (o.permitTurn = x)) (takePermit permit o.first) u) :=
    fun x => .takeIf (takePermit_joins permit o.first) _
  have opens : ∀ u, RecordsJoin 0 u (takeIf o.houseFirst houseRequests (openHouse u)) := fun _ => .of_rq (by simp)
  have plans : ∀ u, RecordsJoin 0 u (takeIf (!o.houseFirst) houseRequests (applyPlan u)) := fun _ => .of_rq (by simp)
  have tripped := (turn .beforeEntry (upToClosed permit o s)).trans
    (.takeIf_le drumOvercurrent_joins (tripsAtClose permit o s && o.tripFirst) _)
  have entered := (tripped.trans (takeStop_joins _)).trans (enterRun_joins _)
  have opened := (entered.trans (opens _)).trans (turn .afterEntry _)
  have planned := opened.trans (plans _)
  have calibrated := (planned.trans (calibrateDrum_joins _)).trans (turn .afterPlan _)
  have done := (calibrated.trans (.takeIf_le drumOvercurrent_joins (tripsAtClose permit o s && !o.tripFirst) _)).trans
    (turn .afterTrip _)
  refine RecordsJoin.mono done ?_
  cases o.permitTurn <;> decide

theorem drumPeriodStart_writesHouse (permit : Bool) (o : PeriodOrder) {s : State} {e : HouseEntry}
    (entry : s.recon.houseEntry = some e) (room : s.rq.records.length ≤ 16) :
    Record.house ⟨e.period, e.bus.present, e.temp.present, e.aux.present⟩ ∈
      (drumPeriodStart permit o s).rq.records := by
  have kept : (closeEnding s.recon.periodEntry (upToClose permit o s)).recon.houseEntry = some e := by
    obtain ⟨x, recon⟩ := upToClose_recon permit o s
    cases s.recon.periodEntry with
    | none => simpa [closeEnding, recon] using entry
    | some p => simpa [closeEnding, closePeriod_recon_kept, recon] using entry
  have joined := (upToClosed_joins permit o s).length_le (by omega)
  exact (drumPeriodStart_joins permit o s).mem (by omega) (closeHouse_writes kept)

/-- A drum period start that is due is taken (R3). -/
theorem exec_drumPeriodStart_of_due (permit : Bool) (o : PeriodOrder) {s : State} (due : drumStartDue s = true) :
    exec (.drumPeriodStart permit o) s = .next (drumPeriodStart permit o s) := by
  change execDrumPeriodStart permit o s = _
  rw [execDrumPeriodStart, if_pos due]

/-- Settles O28: the currents and runs by the codes of the entry, the trip, and the HOUSE record. -/
theorem periodStartClosesEntry : Obligations.PeriodStartClosesEntry := by
  unfold Obligations.PeriodStartClosesEntry
  refine ⟨fun permit o s e _ due entry state => ⟨_, exec_drumPeriodStart_of_due permit o due, ?_, ?_⟩,
    fun permit o s e due entry room => ?_⟩
  · intro raw1 v1 raw2 v2 code1 code2 i trip tripping
    obtain ⟨currents, run, held⟩ := drumPeriodStart_fresh permit o entry state code1 code2
    have iff : periodOver (inputRow .drumShunt s).trip i raw1 raw2 = true ↔ tripping := periodOver_iff _ i raw1 raw2
    refine ⟨currents, held, fun below => ?_, fun above => ⟨?_, fun third stop => ?_⟩⟩
    · rw [run, if_neg (mt iff.1 below)]
    · rw [run, if_pos (iff.2 above)]
    · exact drumPeriodStart_trips permit o entry state stop code1 code2 (iff.2 above) third
  · exact drumPeriodStart_held permit o entry state
  · intro present
    have same : present = HouseSlot.present := funext fun w => (HouseSlot.present_eq w).symm
    rw [same]
    exact ⟨_, exec_drumPeriodStart_of_due permit o due, drumPeriodStart_writesHouse permit o entry room⟩

end Sys2Proof.Machine
end

section
/-! PROOFS. The causes for which each motor enters SAFE (R95, R140): what each signal does to a state control, and the
law `EntriesListed` of every command. -/

namespace Sys2Proof.Machine

/-! ### Cause records (R96, R97, R140, R141) -/

/-- There is a cause record, and its first cause is one of those listed. -/
def FirstListed (listed : Cause → Prop) (record : Option CauseRecord) : Prop :=
  ∃ r, record = some r ∧ listed r.first

theorem CauseRecord.add_first (r : CauseRecord) (c : Cause) : (r.add c).first = r.first := by cases c <;> rfl

theorem FirstListed.entered {listed : Cause → Prop} {c : Cause} (h : listed c) :
    FirstListed listed (some ⟨c, .empty⟩) := ⟨_, rfl, h⟩

/-- A further cause leaves the first one (R97, R141). -/
theorem FirstListed.add {listed : Cause → Prop} {record : Option CauseRecord} (h : FirstListed listed record)
    (c : Cause) : FirstListed listed (record.map fun r => r.add c) := by
  obtain ⟨r, rfl, first⟩ := h
  exact ⟨r.add c, rfl, by rwa [r.add_first c]⟩

/-! ### The law -/

/-- A drum in SAFE was there `before`, or its first cause is one that R95 lists for the state `before`. -/
def DrumListed (before : DrumState) (t : State) : Prop :=
  t.drum.state = .safe → before = .safe ∨ FirstListed (drumCauseListed before) t.drum.cause

/-- A pump in SAFE was there `before`, or its first cause is one that R140 lists for the state `before`. -/
def PumpListed (before : PumpState) (t : State) : Prop :=
  t.pump.state = .safe → before = .safe ∨ FirstListed (pumpCauseListed before) t.pump.cause

/-- An event takes each motor to SAFE from the listed states for the listed causes alone. -/
structure EntriesListed (s t : State) : Prop where
  drum : DrumListed s.drum.state t
  pump : PumpListed s.pump.state t

theorem DrumListed.of_state {before : DrumState} {t : State} (h : t.drum.state = before) : DrumListed before t :=
  fun safe => .inl (h.symm.trans safe)

theorem PumpListed.of_state {before : PumpState} {t : State} (h : t.pump.state = before) : PumpListed before t :=
  fun safe => .inl (h.symm.trans safe)

theorem DrumListed.of_ne_safe {before : DrumState} {t : State} (h : t.drum.state ≠ .safe) : DrumListed before t :=
  fun safe => absurd safe h

theorem PumpListed.of_ne_safe {before : PumpState} {t : State} (h : t.pump.state ≠ .safe) : PumpListed before t :=
  fun safe => absurd safe h

theorem DrumListed.entered {before : DrumState} {c : Cause} (h : drumCauseListed before c) (s : State) :
    DrumListed before (enterDrumSafe c s) := fun _ => .inr (by simpa using FirstListed.entered h)

theorem PumpListed.entered {before : PumpState} {c : Cause} (h : pumpCauseListed before c) (s : State) :
    PumpListed before (enterPumpSafe c s) := fun _ => .inr (by simpa using FirstListed.entered h)

theorem DrumListed.congr {before : DrumState} {t u : State} (h : DrumListed before t) (same : u.drum = t.drum) :
    DrumListed before u := by
  unfold DrumListed
  rwa [same]

theorem PumpListed.congr {before : PumpState} {t u : State} (h : PumpListed before t) (same : u.pump = t.pump) :
    PumpListed before u := by
  unfold PumpListed
  rwa [same]

/-- An event that leaves both states. -/
theorem EntriesListed.still {s t : State} (drum : t.drum.state = s.drum.state) (pump : t.pump.state = s.pump.state) :
    EntriesListed s t := ⟨.of_state drum, .of_state pump⟩

theorem EntriesListed.refl (s : State) : EntriesListed s s := .still rfl rfl

/-- An event of the drum alone. -/
theorem EntriesListed.of_drum {s t : State} (drum : DrumListed s.drum.state t) (pump : t.pump = s.pump) :
    EntriesListed s t := ⟨drum, .of_state (by rw [pump])⟩

/-- An event of the pump alone. -/
theorem EntriesListed.of_pump {s t : State} (pump : PumpListed s.pump.state t) (drum : t.drum = s.drum) :
    EntriesListed s t := ⟨.of_state (by rw [drum]), pump⟩

/-- What comes before the event leaves both states. -/
theorem EntriesListed.after {r s t : State} (h : EntriesListed s t) (drum : s.drum.state = r.drum.state)
    (pump : s.pump.state = r.pump.state) : EntriesListed r t := ⟨drum ▸ h.drum, pump ▸ h.pump⟩

/-- What comes after the event leaves both state controls. -/
theorem EntriesListed.before {s t u : State} (h : EntriesListed s t) (drum : u.drum = t.drum) (pump : u.pump = t.pump) :
    EntriesListed s u := ⟨h.drum.congr drum, h.pump.congr pump⟩

/-- Two signals at the two state controls, whichever goes first. -/
theorem bothMotors_listed {onDrum onPump : State → State} (drum : ∀ s, DrumListed s.drum.state (onDrum s))
    (pump : ∀ s, PumpListed s.pump.state (onPump s)) (onDrum_pump : ∀ s, (onDrum s).pump = s.pump)
    (onPump_drum : ∀ s, (onPump s).drum = s.drum) (first : Motor) (s : State) :
    EntriesListed s (bothMotors first onDrum onPump s) := by
  cases first with
  | drum => exact ⟨(drum s).congr (onPump_drum _), onDrum_pump s ▸ pump (onDrum s)⟩
  | pump => exact ⟨onPump_drum s ▸ drum (onPump s), (pump s).congr (onDrum_pump _)⟩

/-! ### Signals at Drum State Control (R95) -/

theorem drumGateFault_listed (s : State) : DrumListed s.drum.state (drumGateFault s) := by
  unfold drumGateFault
  split <;> rename_i h
  case h_1 | h_6 => exact .of_state rfl
  all_goals exact .entered (by simp [drumCauseListed, h]) s

theorem drumOverTemp_listed (s : State) : DrumListed s.drum.state (drumOverTemp s) := by
  unfold drumOverTemp
  split <;> rename_i h
  case h_1 | h_2 => exact .entered (by simp [drumCauseListed, h]) s
  all_goals exact .of_state rfl

theorem drumLinkBreak_listed (s : State) : DrumListed s.drum.state (drumLinkBreak s) := by
  unfold drumLinkBreak
  split <;> rename_i h
  case h_1 | h_2 => exact .entered (by simp [drumCauseListed, h]) s
  all_goals exact .of_state rfl

/-- The end of the calibration takes a drum in OFFSET to READY, or to SAFE for OFFSET_RANGE (R87). -/
theorem endDrumCalibration_listed (s : State) : DrumListed .offset (endDrumCalibration s) := by
  unfold endDrumCalibration
  simp only
  split
  · exact .of_ne_safe (by simp)
  · exact .entered (by simp [drumCauseListed]) s

theorem drumCalibrationCode_listed (p : Word) (raw : Code) (s : State) :
    DrumListed s.drum.state (drumCalibrationCode p raw s) := by
  unfold drumCalibrationCode
  split
  case isTrue h =>
    simp only
    split
    · exact h.1 ▸ endDrumCalibration_listed _
    · exact .of_state rfl
  case isFalse => exact .of_state rfl

/-- A miss in RUN takes the drum to SAFE for LATE_DUTY alone (R26). -/
theorem countMiss_listed {s : State} (run : s.drum.state = .run) : EntriesListed s (countMiss s) := by
  unfold countMiss
  extract_lets first _ t
  have late : t.drum = s.drum ∧ t.pump = s.pump := by
    simp only [t, lateNotice]
    split <;> simp
  obtain ⟨drum, pump⟩ := late
  split
  · exact .still (by simp [drum]) (by simp [pump])
  · exact .of_drum (.entered (by simp [drumCauseListed, run]) t) (by simp [pump])

theorem planAtPoint_listed (s : State) : EntriesListed s (planAtPoint s) := by
  unfold planAtPoint
  split
  case h_1 | h_2 => exact .still (by simp) (by simp)
  case h_3 run _ _ => exact countMiss_listed run
  case h_4 => exact .refl s

/-! ### Signals at Pump State Control (R140) -/

theorem pumpGateFault_listed (s : State) : PumpListed s.pump.state (pumpGateFault s) := by
  unfold pumpGateFault
  split <;> rename_i h
  case h_1 | h_6 => exact .of_state rfl
  all_goals exact .entered (by simp [pumpCauseListed, h, PumpState.running]) s

theorem pumpOverTemp_listed (s : State) : PumpListed s.pump.state (pumpOverTemp s) := by
  unfold pumpOverTemp
  split
  case isTrue running => exact .entered (by simp [pumpCauseListed, running]) s
  case isFalse => exact .of_state rfl

theorem pumpLinkBreak_listed (s : State) : PumpListed s.pump.state (pumpLinkBreak s) := by
  unfold pumpLinkBreak
  split <;> rename_i h
  case h_1 | h_2 | h_3 => exact .entered (by simp [pumpCauseListed, h, PumpState.running]) s
  all_goals exact .of_state rfl

/-- The end of the calibration takes a pump in OFFSET to ALIGN, or to SAFE for PERMIT or OFFSET_RANGE (R133, R134). -/
theorem endPumpCalibration_listed (s : State) : PumpListed .offset (endPumpCalibration s) := by
  unfold endPumpCalibration
  simp only
  split
  · split
    · exact .of_ne_safe (by simp [enterAlign_spec])
    · exact .entered (by simp [pumpCauseListed]) _
  · exact .entered (by simp [pumpCauseListed]) s

theorem pumpCalibrationCode_listed (p : Word) (raw : Code) {s : State} (offset : s.pump.state = .offset) :
    PumpListed .offset (pumpCalibrationCode p raw s) := by
  unfold pumpCalibrationCode
  simp only
  split
  · split
    · exact endPumpCalibration_listed _
    · exact .of_state offset
  · exact .of_state offset

theorem currentSample_listed (raw : Code) (v : Int) {s : State} (running : s.pump.state.running = true) :
    PumpListed s.pump.state (currentSample raw v s) := by
  unfold currentSample
  simp only
  split
  · split
    · exact .entered (by simp [pumpCauseListed, running]) _
    · exact .of_state (addSample_still v s).1
  · exact .of_state (addSample_still v s).1

theorem pumpShuntCode_listed (p : Word) (t : Tick) (raw : Code) (v : Int) (s : State) :
    PumpListed s.pump.state (pumpShuntCode p t raw v s) := by
  unfold pumpShuntCode
  split
  case isTrue offset => exact offset ▸ pumpCalibrationCode_listed p raw offset
  case isFalse =>
    split
    case isTrue h => exact currentSample_listed raw v (Bool.and_eq_true_iff.1 h).1
    case isFalse => exact .of_state rfl

theorem timeCommutation_state (z : Tick) (s : State) : (timeCommutation z s).pump.state = s.pump.state := by
  unfold timeCommutation
  simp only
  split
  · exact (commutate_still _ _ _).1
  · rfl

/-- A crossing accepted in RAMP leaves the pump there or takes it to CLOSED (R136). -/
theorem countStable_state (i : Option Nat) (s : State) :
    (countStable i s).pump.state = s.pump.state ∨ (countStable i s).pump.state = .closed := by
  unfold countStable
  split
  · exact .inl rfl
  · simp only
    split
    · split
      · exact .inr (by simp [enterClosed, pumpStateNotice])
      · exact .inl rfl
    · exact .inl rfl

theorem acceptCrossing_listed (z : Tick) (s : State) : PumpListed s.pump.state (acceptCrossing z s) := by
  unfold acceptCrossing
  extract_lets interval _ t u
  have counted : PumpListed s.pump.state u := by
    simp only [u]
    split
    · rcases countStable_state interval t with same | closed
      · exact .of_state same
      · exact .of_ne_safe (by simp [closed])
    · exact .of_state rfl
  split
  case isTrue closed => exact .of_ne_safe (by simp [timeCommutation_state, closed])
  case isFalse => exact counted

theorem examineCode_listed (startStep : Tick) (v : Int) (s : State) :
    PumpListed s.pump.state (examineCode startStep v s) := by
  unfold examineCode
  split
  · extract_lets first _ t
    split
    · exact acceptCrossing_listed first t
    · exact .of_state rfl
  · exact .of_state rfl

theorem floatingCode_listed (p : Word) (t : Tick) (v : Int) (s : State) :
    PumpListed s.pump.state (floatingCode p t v s) := by
  unfold floatingCode
  split
  · exact examineCode_listed t v s
  · exact .of_state rfl

/-- A timeout takes a pump in CLOSED to SAFE for STALL alone (R122). -/
theorem takeTimeout_listed (d : Tick) {s : State} (closed : s.pump.state = .closed) :
    PumpListed .closed (takeTimeout d s) := by
  unfold takeTimeout
  extract_lets first _ t
  split
  case isTrue again => exact .of_state (by simp [commutate_still, t, closed])
  case isFalse => exact .entered (by simp [pumpCauseListed]) _

/-- A ramp that has come to its end takes the pump to SAFE for START_FAIL alone (R135). -/
theorem advanceRamp_listed {s : State} (ramp : s.pump.state = .ramp) : PumpListed .ramp (advanceRamp s) := by
  unfold advanceRamp
  split
  · exact .of_state ramp
  · simp only
    split
    · exact .of_state ramp
    · split
      · exact .of_state ramp
      · exact .entered (by simp [pumpCauseListed]) s

theorem rampCommutation_listed {s : State} (ramp : s.pump.state = .ramp) : PumpListed .ramp (rampCommutation s) := by
  have commutated : (commutate .ramp none s).pump.state = .ramp := (commutate_still _ _ s).1.trans ramp
  unfold rampCommutation
  simp only
  split <;> exact advanceRamp_listed commutated

theorem alignAtPeak_listed (s : State) : EntriesListed s (alignAtPeak s) := by
  unfold alignAtPeak
  split
  · exact .of_pump (.of_ne_safe (by simp [enterRamp, pumpStateNotice])) (by simp)
  · exact .refl s

/-! ### The delivery of an outcome (R57, R80, R86, R133, R139) -/

theorem deliverDrum_listed (o : ConversionOutcome) (s : State) : EntriesListed s (deliverDrum o s) := by
  unfold deliverDrum
  simp only
  split
  · exact .of_drum (by simpa using drumCalibrationCode_listed _ _ (fileOutcome o s)) (by simp)
  · exact .still (by simp) (by simp)

theorem deliverPump_listed (o : ConversionOutcome) (s : State) : EntriesListed s (deliverPump o s) := by
  unfold deliverPump
  split
  · exact .of_pump (pumpShuntCode_listed _ _ _ _ s) (by simp)
  · exact .of_pump (floatingCode_listed _ _ _ s) (by simp)
  · exact .still (by simp) (by simp)
  · exact .refl s

theorem overTempCheck_listed (first : Motor) (v : Nat) (s : State) : EntriesListed s (overTempCheck first v s) := by
  have signalled := bothMotors_listed drumOverTemp_listed pumpOverTemp_listed (by simp) (by simp) first
  unfold overTempCheck
  simp only
  split
  · split
    · exact (signalled _).after rfl rfl
    · exact .still rfl rfl
  · exact .still rfl rfl

theorem deliverHouse_listed (first : Motor) (o : ConversionOutcome) (s : State) :
    EntriesListed s (deliverHouse first o s) := by
  unfold deliverHouse
  simp only
  split
  · exact .still (by simp) (by simp)
  · exact (overTempCheck_listed first _ _).after (by simp) (by simp)
  · exact .still (by simp) (by simp)

theorem finishConversion_listed (c : Conversion) (raw : Code) (first : Motor) (s : State) :
    EntriesListed s (finishConversion c raw first s) := by
  rw [show finishConversion c raw first s = deliver first (codeOutcome c raw s) (idled s) from rfl, deliver_code]
  split
  · exact (deliverDrum_listed _ _).after rfl rfl
  · exact (deliverPump_listed _ _).after rfl rfl
  · exact (deliverHouse_listed first _ _).after rfl rfl

end Sys2Proof.Machine
end

section
/-! PROOFS. The causes for which each motor enters SAFE (R95, R140), continued: the period starts, the frames and every
other command. -/

namespace Sys2Proof.Machine

/-! ### The drum within a period start (R85, R93 to R97)

A drum in READY may enter RUN and then lose its permit, so an event of several parts is followed by where the drum can
have come from. -/

/-- The drum, in the course of a period start that began in the state `before`. -/
structure DrumFrom (before : DrumState) (t : State) : Prop where
  safe : DrumListed before t
  run : t.drum.state = .run → before = .run ∨ before = .ready
  ready : t.drum.state = .ready → before = .ready
  offset : t.drum.state = .offset → before = .offset

theorem DrumFrom.begun (s : State) : DrumFrom s.drum.state s := ⟨.of_state rfl, .inl, id, id⟩

theorem DrumFrom.congr {before : DrumState} {t u : State} (h : DrumFrom before t) (same : u.drum = t.drum) :
    DrumFrom before u where
  safe := h.safe.congr same
  run := by rw [same]; exact h.run
  ready := by rw [same]; exact h.ready
  offset := by rw [same]; exact h.offset

theorem DrumFrom.entered {before : DrumState} {c : Cause} (h : drumCauseListed before c) (s : State) :
    DrumFrom before (enterDrumSafe c s) := ⟨.entered h s, by simp, by simp, by simp⟩

section
variable {before : DrumState} {s : State} (h : DrumFrom before s)
include h

/-- The permit is lost in RUN, so in RUN or READY before (R95). -/
theorem DrumFrom.permitLost : DrumFrom before (drumPermitLost s) := by
  unfold drumPermitLost
  split <;> rename_i state
  case h_1 =>
    split
    · exact h
    · exact .entered (by simpa [drumCauseListed] using h.run state) s
  case h_2 =>
    exact ⟨fun safe => (h.safe safe).imp_right fun first => first.add .permit, h.run, h.ready, h.offset⟩
  all_goals exact h

theorem DrumFrom.permit (sample : Bool) (first : Motor) : DrumFrom before (takePermit sample first s) := by
  rcases takePermit_drum_eq sample first s with same | ⟨u, hu, lost⟩
  · exact h.congr same
  · exact (h.congr hu).permitLost.congr lost

theorem DrumFrom.stop : DrumFrom before (takeStop s) := by
  unfold takeStop
  split
  case h_1 k _ _ => cases k <;> exact ⟨.of_ne_safe (by simp [StopKind.target]), by simp [StopKind.target],
    by simp [StopKind.target], by simp [StopKind.target]⟩
  case h_2 => exact h

/-- A drum in READY enters RUN, or SAFE for PERMIT (R93). -/
theorem DrumFrom.enterRun : DrumFrom before (enterRun s) := by
  unfold Machine.enterRun
  split
  case isTrue entry =>
    have ready := h.ready entry.1
    simp only
    split
    · exact ⟨.of_ne_safe (by simp), fun _ => .inr ready, by simp, by simp⟩
    · exact .entered (by simp [drumCauseListed, ready]) s
  case isFalse => exact h

/-- The calibration comes to its end in OFFSET (R85). -/
theorem DrumFrom.calibrate : DrumFrom before (calibrateDrum s) := by
  unfold calibrateDrum
  split
  case isTrue offset =>
    split
    · exact .entered (by simp [drumCauseListed, h.offset offset]) s
    · exact ⟨.of_ne_safe (by simp [offset]), by simp [offset], by simp [offset], fun _ => h.offset offset⟩
  case isFalse => exact h

/-- A close that trips is that of a period in RUN (R76). -/
theorem DrumFrom.trip (run : before = .run) : DrumFrom before (drumOvercurrent s) := by
  unfold drumOvercurrent
  split
  · exact .entered (by simp [drumCauseListed, run]) s
  · exact h

end

theorem drumFrom_kept (before : DrumState) :
    KeptByPeriodStart fun tripped t => (tripped = true → before = .run) → DrumFrom before t where
  permit sample first _ _ h run := (h run).permit sample first
  stop _ _ h run := (h run).stop
  run _ _ h run := (h run).enterRun
  openHouse _ _ h run := (h run).congr (by simp)
  house _ _ h run := (h run).congr (by simp)
  plan _ _ h run := (h run).congr (by simp)
  calibrate _ _ h run := (h run).calibrate
  trip _ _ h run := (h fun _ => run rfl).trip (run rfl)

/-! ### The pump within a period start (R18, R133, R140) -/

/-- The pump, in the course of a period start that began in the state `before`. -/
structure PumpFrom (before : PumpState) (t : State) : Prop where
  safe : PumpListed before t
  state : t.pump.state = before ∨ t.pump.state = .safe

theorem PumpFrom.begun (s : State) : PumpFrom s.pump.state s := ⟨.of_state rfl, .inl rfl⟩

theorem PumpFrom.congr {before : PumpState} {t u : State} (h : PumpFrom before t) (same : u.pump = t.pump) :
    PumpFrom before u := ⟨h.safe.congr same, by rw [same]; exact h.state⟩

theorem PumpFrom.entered {before : PumpState} {c : Cause} (h : pumpCauseListed before c) (s : State) :
    PumpFrom before (enterPumpSafe c s) := ⟨.entered h s, .inr (by simp)⟩

/-- A pump that is not in SAFE has not changed its state. -/
theorem PumpFrom.eq_before {before : PumpState} {t : State} (h : PumpFrom before t) (safe : t.pump.state ≠ .safe) :
    before = t.pump.state := (h.state.resolve_right safe).symm

theorem PumpFrom.permitLost {before : PumpState} {s : State} (h : PumpFrom before s) :
    PumpFrom before (pumpPermitLost s) := by
  unfold pumpPermitLost
  split <;> rename_i state
  case h_4 => exact ⟨fun safe => (h.safe safe).imp_right fun first => first.add .permit, h.state⟩
  case h_5 | h_6 => exact h
  all_goals
    split
    · exact h
    · exact .entered (by simp [pumpCauseListed, h.eq_before (by simp [state]), state, PumpState.running]) s

/-- At the pump a change of the permit does what its loss does, or nothing (R17, R18). -/
theorem permitChanged_pump_eq (before : State) (first : Motor) (s : State) :
    (permitChanged before first s).pump = s.pump ∨
      ∃ u : State, u.pump = s.pump ∧ (permitChanged before first s).pump = (pumpPermitLost u).pump := by
  have forced : ∀ f g, (applyForcing .pump f (applyForcing .drum g s)).pump = s.pump := by simp
  simp only [permitChanged]
  split
  · exact .inl (forced _ _)
  · cases first with
    | drum => exact .inr ⟨drumPermitLost _, by simp, rfl⟩
    | pump => exact .inr ⟨_, forced (forcing .pump before) (forcing .drum before), by simp [bothMotors]⟩

theorem takePermit_pump_eq (sample : Bool) (first : Motor) (s : State) :
    (takePermit sample first s).pump = s.pump ∨
      ∃ u : State, u.pump = s.pump ∧ (takePermit sample first s).pump = (pumpPermitLost u).pump := by
  simp only [takePermit]
  split
  · exact .inl rfl
  · exact permitChanged_pump_eq s first (s.withInput _)

theorem PumpFrom.permit {before : PumpState} {s : State} (h : PumpFrom before s) (sample : Bool) (first : Motor) :
    PumpFrom before (takePermit sample first s) := by
  rcases takePermit_pump_eq sample first s with same | ⟨u, hu, lost⟩
  · exact h.congr same
  · exact (h.congr hu).permitLost.congr lost

theorem pumpFrom_kept (before : PumpState) : KeptByPeriodStart fun _ t => PumpFrom before t where
  permit sample first _ _ h := h.permit sample first
  stop _ _ h := h.congr (by simp)
  run _ _ h := h.congr (by simp)
  openHouse _ _ h := h.congr (by simp)
  house _ _ h := h.congr (by simp)
  plan _ _ h := h.congr (by simp)
  calibrate _ _ h := h.congr (by simp)
  trip _ _ h := h.congr (by simp)

/-- The calibration comes to its end in OFFSET (R133). -/
theorem PumpFrom.calibrate {before : PumpState} {s : State} (h : PumpFrom before s) (b : Bool)
    (offset : s.pump.state = .offset) : PumpFrom before (calibratePump b s) := by
  unfold calibratePump
  split
  · exact .entered (by simp [pumpCauseListed, h.eq_before (by simp [offset]), offset]) _
  · exact ⟨.of_ne_safe (by simp [offset]), .inl (by simpa using h.state.resolve_right (by simp [offset]))⟩

/-- What a pump period start does before the requests leaves the state and the cause record (R110, R113, R134, R137). -/
theorem pumpPeriod_still (s : State) :
    (markPeriod (fixOnTime (countAlign (applyPendingDuty s)))).pump.state = s.pump.state ∧
    (markPeriod (fixOnTime (countAlign (applyPendingDuty s)))).pump.cause = s.pump.cause := by
  simp only [markPeriod_kept, fixOnTime_kept, countAlign, State.withPump_pump, applyPendingDuty]
  split
  · split <;> exact ⟨rfl, rfl⟩
  · exact ⟨rfl, rfl⟩

theorem PumpFrom.openPumpPeriod {before : PumpState} {s : State} (h : PumpFrom before s) (b : Bool) :
    PumpFrom before (openPumpPeriod b s) := by
  unfold Machine.openPumpPeriod
  extract_lets t
  have marked : PumpFrom before t := by
    obtain ⟨state, cause⟩ := pumpPeriod_still s
    exact ⟨by rw [PumpListed, state, cause]; exact h.safe, by rw [state]; exact h.state⟩
  split
  · exact marked.congr (by simp)
  · split
    case isTrue offset => exact marked.calibrate b offset
    case isFalse => exact marked

/-! ### The period starts -/

theorem drumPeriodStart_listed (permit : Bool) (o : PeriodOrder) (s : State) :
    EntriesListed s (drumPeriodStart permit o s) where
  drum := by
    have kept := drumFrom_kept s.drum.state
    have begun : DrumFrom s.drum.state (beginDrumPeriod s) := (DrumFrom.begun s).congr (by simp)
    have closing := kept.upToClose permit o (b := false) fun _ => begun
    have closed : DrumFrom s.drum.state (upToClosed permit o s) :=
      (closing (by simp)).congr (by simp [upToClosed])
    refine (kept.afterClosed permit o (b := false) (fun _ => closed) fun trips => ?_).safe
    simp only [Bool.false_or, tripsAtClose, Bool.and_eq_true, decide_eq_true_eq] at trips
    exact trips.1
  pump := by
    have kept := pumpFrom_kept s.pump.state
    have begun : PumpFrom s.pump.state (beginDrumPeriod s) := (PumpFrom.begun s).congr (by simp)
    have closing := kept.upToClose permit o (b := false) begun
    have closed : PumpFrom s.pump.state (upToClosed permit o s) := closing.congr (by simp [upToClosed])
    exact (kept.afterClosed permit o (b := false) closed).safe

theorem openPumpPeriod_listed (b : Bool) (s : State) : EntriesListed s (openPumpPeriod b s) :=
  .of_pump ((PumpFrom.begun s).openPumpPeriod b).safe (by simp)

/-- The period starts of an accepted SETUP, on the state in which it takes them. -/
theorem acceptSetup_eq (f : SetupFields) (permit : Bool) (s : State) :
    acceptSetup f permit s =
      openPumpPeriod false (houseRequests (openHouse (applyPlan (takePermit permit .drum (setUp f s))))) := rfl

theorem acceptSetup_listed (f : SetupFields) (permit : Bool) (s : State) :
    EntriesListed s (acceptSetup f permit s) := by
  have drum := (DrumFrom.begun (setUp f s)).permit permit .drum
  have pump := (PumpFrom.begun (setUp f s)).permit permit .drum
  rw [acceptSetup_eq]
  exact ⟨drum.safe.congr (by simp), ((pump.congr (by simp)).openPumpPeriod false).safe⟩

/-! ### Frames -/

theorem atCompletion_listed {f : FrameInProgress → State → State} (hf : ∀ fr s, EntriesListed s (f fr s))
    (s : State) : EntriesListed s (atCompletion f s) := by
  unfold atCompletion
  split
  · split
    · exact hf _ s
    · split
      · exact .still rfl rfl
      · split
        · exact (hf _ _).after (by simp [beginFrame]) (by simp [beginFrame])
        · exact .refl s
  · exact .still rfl rfl

theorem decideFrame_listed {b : Body} (hb : ∀ s, EntriesListed s (b s).1) (s : State) :
    EntriesListed s (decideFrame b s) := by
  refine atCompletion_listed (fun fr t => ?_) s
  have acted : EntriesListed t (b (endBreakRun (sentWhole fr t))).1 := (hb _).after rfl rfl
  exact acted.before (by simp [runBody]) (by simp [runBody])

theorem whenReady_listed {b : Body} (hb : ∀ s, EntriesListed s (b s).1) (s : State) :
    EntriesListed s (whenReady b s).1 := by
  unfold whenReady
  split
  · exact hb s
  · exact .refl s

theorem shortFrame_listed (bits : Nat) (s : State) : EntriesListed s (shortFrame bits s) :=
  atCompletion_listed (fun _ _ => .still (by simp [endBreakRun, sentShort, endFrame])
    (by simp [endBreakRun, sentShort, endFrame])) s

theorem linkBreak_listed (first : Motor) (s : State) : EntriesListed s (linkBreak first s) :=
  (bothMotors_listed drumLinkBreak_listed pumpLinkBreak_listed (by simp) (by simp) first _).after (by simp) (by simp)

theorem breakFrame_listed (first : Motor) (s : State) : EntriesListed s (breakFrame first s) := by
  refine atCompletion_listed (fun fr t => ?_) s
  extract_lets u _ v
  split
  · have broken : EntriesListed t (linkBreak first v) := (linkBreak_listed first v).after rfl rfl
    exact broken.before (by simp) (by simp)
  · exact .still (by simp [v, u, sentWhole, endFrame]) (by simp [v, u, sentWhole, endFrame])

theorem checkErrorBody_listed (s : State) : EntriesListed s (checkErrorBody s).1 := by
  unfold checkErrorBody
  simp only
  split <;> exact .still (by simp) (by simp)

theorem setupBody_listed (f : SetupFields) (permit : Bool) (s : State) : EntriesListed s (setupBody f permit s).1 := by
  unfold setupBody
  split
  · exact .refl s
  · exact acceptSetup_listed f permit s

theorem dutyBody_listed (d : PerPhase Word) (s : State) : EntriesListed s (dutyBody d s).1 := by
  have filled : EntriesListed s (fillSlot d s) := by
    rw [fillSlot_eq]
    exact .still rfl rfl
  unfold dutyBody
  split
  case h_1 | h_2 => exact filled
  all_goals exact .refl s

theorem pumpBody_listed (direction : BitVec 2) (duty : Word) (s : State) :
    EntriesListed s (pumpBody direction duty s).1 := by
  unfold pumpBody
  split
  · unfold pumpDutyBody
    split
    case h_1 => exact .still rfl rfl
    case h_2 => exact .refl s
    all_goals split <;> exact .still rfl rfl
  · exact .refl s

theorem tableInputBody_listed (row : BitVec 4) (source : BitVec 2) (input : BitVec 4) (offset trip : Word) (s : State) :
    EntriesListed s (tableInputBody row source input offset trip s).1 := by
  unfold tableInputBody
  split
  · split
    · simp only [writeInputRow]
      split <;> exact .still (by simp) (by simp)
    · exact .refl s
  · exact .refl s

theorem tableCommutationBody_listed (row : BitVec 4) (high low floating polarity : BitVec 2) (s : State) :
    EntriesListed s (tableCommutationBody row high low floating polarity s).1 := by
  unfold tableCommutationBody
  split
  · split
    · split <;> exact .still rfl rfl
    · exact .refl s
  · exact .refl s

theorem tableProfileBody_listed (f : ProfileFields) (s : State) : EntriesListed s (tableProfileBody f s).1 := by
  unfold tableProfileBody
  split
  · split <;> exact .still rfl rfl
  · exact .refl s

theorem tableRampBody_listed (row : BitVec 4) (interval : BitVec 24) (repeats : BitVec 8) (duty : Word) (s : State) :
    EntriesListed s (tableRampBody row interval repeats duty s).1 := by
  unfold tableRampBody
  split
  · split <;> exact .still rfl rfl
  · exact .refl s

theorem tableRampLengthBody_listed (length : BitVec 5) (s : State) :
    EntriesListed s (tableRampLengthBody length s).1 := by
  unfold tableRampLengthBody
  split <;> exact .still rfl rfl

theorem answerQuery_listed (page : State → StatusPage) {clearing : State → State}
    (h : ∀ s, EntriesListed s (clearing s)) (s : State) : EntriesListed s (answerQuery (page s) clearing s).1 :=
  (h s).before (by simp [answerQuery]) (by simp [answerQuery])

theorem takeIf_listed {f : State → State} (h : ∀ s, EntriesListed s (f s)) (b : Bool) (s : State) :
    EntriesListed s (takeIf b f s) := by
  cases b with
  | true => exact h s
  | false => exact .refl s

theorem queryTableBody_listed (id row : BitVec 4) (s : State) : EntriesListed s (queryTableBody id row s).1 := by
  unfold queryTableBody
  split <;> exact .still (by simp [answerQuery]) (by simp [answerQuery])

theorem startDrumBody_listed (s : State) : EntriesListed s (startDrumBody s).1 := by
  have started : EntriesListed s (acceptStartDrum s) := by
    obtain ⟨st, c, safe, eq⟩ := acceptStartDrum_eq s
    rw [eq]
    exact .of_drum (.of_ne_safe (by simpa using safe)) (by simp [startDrumCounters])
  unfold startDrumBody
  repeat' split
  case isFalse.isFalse.isFalse.isFalse => exact started
  all_goals exact .refl s

theorem startPumpBody_listed (s : State) : EntriesListed s (startPumpBody s).1 := by
  have started : EntriesListed s (acceptStartPump s) := by
    unfold acceptStartPump startPumpCounters
    simp only
    split
    · exact .of_pump (.of_ne_safe (by simp [enterPumpOffset, pumpStateNotice])) (by simp)
    · exact .of_pump (.of_ne_safe (by simp [enterAlign_spec])) (by simp)
  unfold startPumpBody
  repeat' split
  case isFalse.isFalse.isFalse.isFalse.isFalse => exact started
  all_goals exact .refl s

/-- A drum that a frame takes to OFF. -/
theorem changeDrum_off_listed {s t : State} (pump : t.pump = s.pump) : EntriesListed s (changeDrum .off t) :=
  .of_drum (.of_ne_safe (by simp)) (by simpa using pump)

/-- A pump that a frame takes to OFF. -/
theorem pumpOff_listed {s t : State} (drum : t.drum = s.drum) : EntriesListed s (pumpOff t) :=
  .of_pump (.of_ne_safe (by simp [pumpOff, pumpStateNotice])) (by simpa using drum)

theorem stopCoastDrumBody_listed (s : State) : EntriesListed s (stopCoastDrumBody s).1 := by
  unfold stopCoastDrumBody
  split
  case h_1 | h_6 => exact .refl s
  case h_4 => exact .still rfl rfl
  all_goals exact changeDrum_off_listed rfl

theorem stopBrakeDrumBody_listed (s : State) : EntriesListed s (stopBrakeDrumBody s).1 := by
  unfold stopBrakeDrumBody
  split
  case h_1 | h_5 | h_6 => exact .refl s
  case h_4 => exact .still rfl rfl
  all_goals exact changeDrum_off_listed rfl

theorem stopCoastPumpBody_listed (s : State) : EntriesListed s (stopCoastPumpBody s).1 := by
  unfold stopCoastPumpBody
  split
  case h_1 | h_6 => exact .refl s
  all_goals exact pumpOff_listed rfl

theorem clearDrumBody_listed (s : State) : EntriesListed s (clearDrumBody s).1 := by
  unfold clearDrumBody
  repeat' split
  case isFalse.isFalse.isFalse => exact changeDrum_off_listed rfl
  all_goals exact .refl s

theorem clearPumpBody_listed (s : State) : EntriesListed s (clearPumpBody s).1 := by
  unfold clearPumpBody
  repeat' split
  case isFalse.isFalse.isFalse => exact pumpOff_listed rfl
  all_goals exact .refl s

theorem dryBody_listed (m : Motor) (b : Bool) (s : State) : EntriesListed s (dryBody m b s).1 := by
  unfold dryBody
  split
  · cases m <;> exact .still (by simp [setDry]) (by simp [setDry])
  · exact .refl s

theorem setReport_listed (m : Motor) (b : Bool) (s : State) : EntriesListed s (setReport m b s) := by
  cases m <;> exact .still rfl rfl

/-! ### Events -/

theorem resetPart_listed (cause : ResetCause) (s : State) : EntriesListed s (resetPart cause s) :=
  ⟨.of_ne_safe (by simp [resetPart, State.reset]), .of_ne_safe (by simp [resetPart, State.reset])⟩

theorem joinResetNotice_kept (s : State) : (joinResetNotice s).drum = s.drum ∧ (joinResetNotice s).pump = s.pump := by
  simp [joinResetNotice]

theorem moveFaultLine_still (m : Motor) (active : Bool) (s : State) :
    (moveFaultLine m active s).drum = s.drum ∧ (moveFaultLine m active s).pump = s.pump := by
  cases m <;> simp [moveFaultLine]

theorem gateFault_listed (m : Motor) (s : State) : EntriesListed s (gateFault m s) := by
  cases m with
  | drum => exact .of_drum (drumGateFault_listed s) (by simp [gateFault])
  | pump => exact .of_pump (pumpGateFault_listed s) (by simp [gateFault])

theorem frameBegin_listed (s : State) :
    EntriesListed s
      (if s.link.selected then s
       else if s.link.resetN then beginFrame s
       else s.withLink { s.link with selected := true }) := by
  split
  · exact .refl s
  · split <;> exact .still rfl rfl

/-! ### Every command -/

theorem exec_entriesListed {c : Instr} {s t : State} (he : exec c s = .next t) : EntriesListed s t := by
  have frame : ∀ {b : Body}, (∀ s, EntriesListed s (b s).1) → EntriesListed s (decideFrame b s) := fun hb =>
    decideFrame_listed hb s
  have ready : ∀ {b : Body}, (∀ s, EntriesListed s (b s).1) → EntriesListed s (decideFrame (whenReady b) s) :=
    fun hb => frame (whenReady_listed hb)
  have event : ∀ {b : Bool} {u : State}, (b = true → EntriesListed s u) →
      EntriesListed s (if b then u else s) := by
    intro b u hu
    cases b with
    | true => exact hu rfl
    | false => exact .refl s
  have goes : ∃ u, exec c s = .next u ∧ EntriesListed s u := by
    cases c with
    | powerReset =>
      refine ⟨_, rfl, ?_⟩
      have fresh := resetPart_listed .power s
      split
      · exact fresh.before (joinResetNotice_kept _).1 (joinResetNotice_kept _).2
      · exact fresh
    | pinReset => exact ⟨_, rfl, (resetPart_listed .pin s).before rfl rfl⟩
    | pinResetRelease =>
      refine ⟨_, rfl, ?_⟩
      split
      · exact .refl s
      · exact .still (by rw [(joinResetNotice_kept _).1]; rfl) (by rw [(joinResetNotice_kept _).2]; rfl)
    | frameBegin => exact ⟨_, rfl, frameBegin_listed s⟩
    | shortFrame bits => exact ⟨_, rfl, shortFrame_listed bits s⟩
    | breakFrame first => exact ⟨_, rfl, breakFrame_listed first s⟩
    | checkError => exact ⟨_, rfl, frame checkErrorBody_listed⟩
    | unknownKind | fill | queryUnknownPage => exact ⟨_, rfl, frame .refl⟩
    | controlUnknownCode | tableUnknownId | stopBrakePump => exact ⟨_, rfl, ready .refl⟩
    | setup f permit => exact ⟨_, rfl, frame (setupBody_listed f permit)⟩
    | duty d => exact ⟨_, rfl, ready (dutyBody_listed d)⟩
    | pump direction duty => exact ⟨_, rfl, ready (pumpBody_listed direction duty)⟩
    | rate half pumpHalf => exact ⟨_, rfl, ready fun _ => .still rfl rfl⟩
    | tableInput row source input offset trip =>
      exact ⟨_, rfl, ready (tableInputBody_listed row source input offset trip)⟩
    | tableCommutation row high low floating polarity =>
      exact ⟨_, rfl, ready (tableCommutationBody_listed row high low floating polarity)⟩
    | tableProfile f => exact ⟨_, rfl, ready (tableProfileBody_listed f)⟩
    | tableRamp row interval repeats duty => exact ⟨_, rfl, ready (tableRampBody_listed row interval repeats duty)⟩
    | tableRampLength length => exact ⟨_, rfl, ready (tableRampLengthBody_listed length)⟩
    | queryLink clear =>
      have cleared := takeIf_listed (f := clearLinkCounters) (fun _ => .still rfl rfl) clear
      exact ⟨_, rfl, frame (answerQuery_listed _ cleared)⟩
    | queryDrum clear =>
      have cleared := takeIf_listed (f := clearLostDrum) (fun _ => .still rfl rfl) clear
      exact ⟨_, rfl, frame (answerQuery_listed _ cleared)⟩
    | queryPump clear =>
      have cleared := takeIf_listed (f := clearLostPump) (fun _ => .still rfl rfl) clear
      exact ⟨_, rfl, frame (answerQuery_listed _ cleared)⟩
    | queryDrumSnap | queryPumpSnap => exact ⟨_, rfl, frame (answerQuery_listed _ fun _ => .still rfl rfl)⟩
    | queryPumpRingA | queryPumpRingB => exact ⟨_, rfl, frame (answerQuery_listed _ .refl)⟩
    | queryTable clear id row => exact ⟨_, rfl, frame (queryTableBody_listed id row)⟩
    | startDrum => exact ⟨_, rfl, ready startDrumBody_listed⟩
    | startPump => exact ⟨_, rfl, ready startPumpBody_listed⟩
    | stopCoastDrum => exact ⟨_, rfl, ready stopCoastDrumBody_listed⟩
    | stopBrakeDrum => exact ⟨_, rfl, ready stopBrakeDrumBody_listed⟩
    | stopCoastPump => exact ⟨_, rfl, ready stopCoastPumpBody_listed⟩
    | clearDrum => exact ⟨_, rfl, ready clearDrumBody_listed⟩
    | clearPump => exact ⟨_, rfl, ready clearPumpBody_listed⟩
    | dryOn m => exact ⟨_, rfl, ready (dryBody_listed m true)⟩
    | dryOff m => exact ⟨_, rfl, ready (dryBody_listed m false)⟩
    | reportOn m => exact ⟨_, rfl, ready (setReport_listed m true)⟩
    | reportOff m => exact ⟨_, rfl, ready (setReport_listed m false)⟩
    | clearFlags => exact ⟨_, rfl, ready fun _ => .still rfl rfl⟩
    | reset =>
      exact ⟨_, rfl, ready fun u =>
        (resetPart_listed .command u).before (joinResetNotice_kept _).1 (joinResetNotice_kept _).2⟩
    | faultLineFall m =>
      refine ⟨_, rfl, ?_⟩
      split
      · exact .refl s
      · obtain ⟨drum, pump⟩ := moveFaultLine_still m true s
        exact (gateFault_listed m _).after (by rw [drum]) (by rw [pump])
    | faultLineRise m =>
      obtain ⟨drum, pump⟩ := moveFaultLine_still m false s
      exact ⟨_, rfl, event fun _ => .still (by rw [drum]) (by rw [pump])⟩
    | enableTimeReached m x => exact ⟨_, rfl, event fun _ => .still (by simp) (by simp)⟩
    | drumPeriodStart permit o => exact ⟨_, rfl, event fun _ => drumPeriodStart_listed permit o s⟩
    | planPoint => exact ⟨_, rfl, event fun _ => (planAtPoint_listed _).after rfl rfl⟩
    | planEdge x =>
      refine ⟨_, rfl, ?_⟩
      split
      · exact .still (by simp) (by simp)
      · exact .refl s
    | pumpPeriodStart b => exact ⟨_, rfl, event fun _ => (openPumpPeriod_listed b _).after rfl rfl⟩
    | pumpPeak => exact ⟨_, rfl, event fun _ => (alignAtPeak_listed _).after rfl rfl⟩
    | pumpSpanEdge => exact ⟨_, rfl, event fun _ => .still (by simp) (by simp)⟩
    | conversionStart =>
      refine ⟨_, rfl, ?_⟩
      split
      · exact .still (by simp) (by simp)
      · exact .refl s
    | conversionDone code first =>
      refine ⟨_, rfl, ?_⟩
      split
      · exact finishConversion_listed _ code first s
      · exact .refl s
    | requestExpiry =>
      refine ⟨_, rfl, ?_⟩
      split
      · exact .still (by simp) (by simp)
      · exact .refl s
    | dueCommutation =>
      exact ⟨_, rfl, event fun _ => .still (by simp) (commutate_still _ _ s).1⟩
    | zcTimeout =>
      refine ⟨_, rfl, ?_⟩
      split
      case h_1 due =>
        have closed := timeoutDue_closed due
        exact .of_pump (closed ▸ takeTimeout_listed _ closed) (by simp)
      case h_2 => exact .refl s
    | rampCommutation =>
      refine ⟨_, rfl, event fun due => ?_⟩
      have ramp : s.pump.state = .ramp := of_decide_eq_true (Bool.and_eq_true_iff.1 due).1
      exact .of_pump (ramp ▸ rampCommutation_listed ramp) (by simp)
  obtain ⟨u, hu, listed⟩ := goes
  rw [hu] at he
  cases he
  exact listed

/-- Settles O36: every command keeps to `EntriesListed`, in every state; the premise `DrumKept` is not needed. -/
theorem safeEntriesHaveListedCauses : Obligations.SafeEntriesHaveListedCauses := by
  unfold Obligations.SafeEntriesHaveListedCauses
  intro c s t _ he
  have listed := exec_entriesListed he
  exact ⟨fun before after => (listed.drum after).resolve_left before,
    fun before after => (listed.pump after).resolve_left before⟩

end Sys2Proof.Machine
end

section
/-! PROOFS. The control frames of the two motors: a drum START (R91), the stops (R92, R94, R126, R142) and CLEAR (R98,
R141). -/

namespace Sys2Proof.Machine

/-! ### Changes of state that float the phases (R23, R90, R126, R131) -/

/-- The drum in `st`, with its phases floated and what R23 gives up there. -/
def drumFloated (st : DrumState) (s : State) : State :=
  { s with
    drum := { s.drum with state := st, stopPending := none }
    planner := s.planner.atDrumState st
    drumGates := s.drumGates.map floated }

/-- The pump in `st` after it stopped, with its phases floated. -/
def pumpFloated (st : PumpState) (s : State) : State :=
  { s with
    pump := stoppedPump st s.pump
    comm := stoppedCommutator s.comm
    pumpGates := s.pumpGates.map floated }

theorem command_float_eq (t : Tick) (f : Forcing) : PhaseRecord.command .float t f = floated :=
  funext (PhaseRecord.command_float t f)

theorem enterDrumState_of_float {st : DrumState} {s : State} (float : drumPattern st s.setup.brake = some .float) :
    enterDrumState st s = drumFloated st s := by
  simp only [enterDrumState, commandDrumPattern, State.withDrum_setup, float, driveAll, command_float_eq]
  rfl

theorem stopPump_eq (st : PumpState) (s : State) : stopPump st s = pumpFloated st s := by
  simp only [stopPump, driveAll, command_float_eq]
  rfl

/-- A command's answer, from the state it goes to. -/
theorem next_congr {t u : State} (h : t = u) : (.next t : Answer State) = .next u := congrArg _ h

section
variable {s : State} {fr : FrameInProgress} (receiving : Receiving s fr) (ready : s.link.state = .ready) {b : Body}
  {t : State} {r : Result}
include receiving ready

/-- A frame that changes the drum's state is answered, and the STATE notice joins (R103, R153). -/
theorem decideFrame_of_changeDrum {st : DrumState} (float : ∀ brake, drumPattern st brake = some .float)
    (taken : b (endBreakRun (sentWhole fr s)) = (changeDrum st t, r)) :
    decideFrame (whenReady b) s = joinNotice (.drumState st) (setResult r (drumFloated st t)) := by
  rw [decideFrame_of_taken receiving ready taken, changeDrum, setResult_joinNotice, enterDrumState_of_float (float _)]

/-- A frame that takes the pump to OFF is answered, and the STATE notice joins (R143, R153). -/
theorem decideFrame_of_pumpOff (taken : b (endBreakRun (sentWhole fr s)) = (pumpOff t, r)) :
    decideFrame (whenReady b) s = joinNotice (.pumpState .off) (setResult r (pumpFloated .off t)) := by
  rw [decideFrame_of_taken receiving ready taken, pumpOff, pumpStateNotice, setResult_joinNotice, stopPump_eq]

end

/-- A drum that floats in OFF when a frame is answered (R23). -/
theorem setResult_drumFloated_off (r : Result) (fr : FrameInProgress) (d : DrumControl) (s : State) :
    setResult r (drumFloated .off ((endBreakRun (sentWhole fr s)).withDrum d)) =
      { answered fr r s with
        drum := { d with state := .off, stopPending := none }
        planner := emptiedPlanner s.planner
        drumGates := s.drumGates.map floated } := by
  rw [setResult_eq, endBreakRun_sentWhole]
  rfl

/-- A pump that floats in OFF when a frame is answered (R126). -/
theorem setResult_pumpFloated_off (r : Result) (fr : FrameInProgress) (p : PumpControl) (s : State) :
    setResult r (pumpFloated .off ((endBreakRun (sentWhole fr s)).withPump p)) =
      { answered fr r s with
        pump := stoppedPump .off p
        comm := stoppedCommutator s.comm
        pumpGates := s.pumpGates.map floated } := by
  rw [setResult_eq, endBreakRun_sentWhole]
  rfl

/-! ### A drum START (R91) -/

section
variable {s : State}

theorem startDrumBody_of_on (on : s.drum.state ≠ .off) : startDrumBody s = (s, .badState) := if_pos on

theorem startDrumBody_of_unassigned (off : s.drum.state = .off) (none : (inputRow .drumShunt s).input = none) :
    startDrumBody s = (s, .notAssigned) := by
  simp [startDrumBody, assigned, off, none]

theorem startDrumBody_of_noPermit (off : s.drum.state = .off) (input : (inputRow .drumShunt s).input.isSome = true)
    (noPermit : s.input.permit = false ∧ s.drum.dry = false) : startDrumBody s = (s, .noPermit) := by
  simp [startDrumBody, assigned, off, input, noPermit]

theorem startDrumBody_of_fault (off : s.drum.state = .off) (input : (inputRow .drumShunt s).input.isSome = true)
    (permit : ¬(s.input.permit = false ∧ s.drum.dry = false)) (fault : s.input.faultD = true) :
    startDrumBody s = (s, .badState) := by
  simp [startDrumBody, assigned, off, input, permit, fault]

theorem startDrumBody_of_clear (off : s.drum.state = .off) (input : (inputRow .drumShunt s).input.isSome = true)
    (permit : ¬(s.input.permit = false ∧ s.drum.dry = false)) (fault : s.input.faultD = false) :
    startDrumBody s = (acceptStartDrum s, .ok) := by
  simp [startDrumBody, assigned, off, input, permit, fault]

theorem acceptStartDrum_of_calibrate (source : (inputRow .drumShunt s).source = .calibrate) :
    acceptStartDrum s =
      changeDrum .offset ((startDrumCounters s).withDrum { s.drum with calib := .zero }) := if_pos source

theorem acceptStartDrum_of_fixed (source : (inputRow .drumShunt s).source = .fixed) :
    acceptStartDrum s = changeDrum .ready (startDrumCounters s) :=
  if_neg fun calibrate => by cases source.symm.trans calibrate

end

/-- Settles O32: START's conditions in R91's order, on the state that the completion leaves. -/
theorem startDrumByFirstCondition : Obligations.StartDrumByFirstCondition := by
  unfold Obligations.StartDrumByFirstCondition
  intro s fr receiving ready u noPermit
  have refused : ∀ {r}, startDrumBody (endBreakRun (sentWhole fr s)) = (endBreakRun (sentWhole fr s), r) →
      exec .startDrum s = .next (answered fr r s) :=
    fun h => next_congr (decideFrame_of_refused receiving ready h)
  refine ⟨fun on => refused (startDrumBody_of_on on), fun off none => refused (startDrumBody_of_unassigned off none),
    fun off input permit => refused (startDrumBody_of_noPermit off input permit),
    fun off input permit fault => refused (startDrumBody_of_fault off input permit fault),
    fun off input permit fault => ?_⟩
  have started := startDrumBody_of_clear (s := endBreakRun (sentWhole fr s)) off input permit fault
  refine ⟨fun calibrate => ?_, fun fixed => ?_⟩
  · rw [acceptStartDrum_of_calibrate (s := endBreakRun (sentWhole fr s)) calibrate] at started
    refine next_congr ((decideFrame_of_changeDrum receiving ready (fun _ => rfl) started).trans ?_)
    rw [setResult_eq, endBreakRun_sentWhole]
    rfl
  · rw [acceptStartDrum_of_fixed (s := endBreakRun (sentWhole fr s)) fixed] at started
    refine next_congr ((decideFrame_of_changeDrum receiving ready (fun _ => rfl) started).trans ?_)
    rw [setResult_eq, endBreakRun_sentWhole]
    rfl

/-! ### Stops (R92, R94, R126, R142) -/

section
variable {s : State} {fr : FrameInProgress} (receiving : Receiving s fr) (ready : s.link.state = .ready) {b : Body}
include receiving ready

/-- A frame that takes the drum to OFF and changes nothing else. -/
theorem decideFrame_drumOff
    (taken : b (endBreakRun (sentWhole fr s)) = (changeDrum .off (endBreakRun (sentWhole fr s)), .ok)) :
    decideFrame (whenReady b) s =
      joinNotice (.drumState .off)
        { answered fr .ok s with
          drum := { s.drum with state := .off, stopPending := none }
          planner := emptiedPlanner s.planner
          drumGates := s.drumGates.map floated } :=
  (decideFrame_of_changeDrum receiving ready (fun _ => rfl) taken).trans
    (congrArg _ (setResult_drumFloated_off .ok fr s.drum s))

/-- A stop that becomes pending (R94). -/
theorem decideFrame_stopPending {k : StopKind}
    (taken : b (endBreakRun (sentWhole fr s)) = (setStopPending k (endBreakRun (sentWhole fr s)), .ok)) :
    decideFrame (whenReady b) s = { answered fr .ok s with drum := { s.drum with stopPending := some k } } := by
  rw [decideFrame_of_taken receiving ready taken, setResult_eq, endBreakRun_sentWhole]
  rfl

end

section
variable {s : State}

theorem stopDrumBodies_of_off (h : s.drum.state = .off) :
    stopCoastDrumBody s = (s, .ok) ∧ stopBrakeDrumBody s = (s, .ok) := by
  simp [stopCoastDrumBody, stopBrakeDrumBody, h]

theorem stopDrumBodies_of_waiting (h : s.drum.state = .offset ∨ s.drum.state = .ready) :
    stopCoastDrumBody s = (changeDrum .off s, .ok) ∧ stopBrakeDrumBody s = (changeDrum .off s, .ok) := by
  rcases h with h | h <;> simp [stopCoastDrumBody, stopBrakeDrumBody, h]

theorem stopDrumBodies_of_run (h : s.drum.state = .run) :
    stopCoastDrumBody s = (setStopPending .coast s, .ok) ∧ stopBrakeDrumBody s = (setStopPending .brake s, .ok) := by
  simp [stopCoastDrumBody, stopBrakeDrumBody, h]

theorem stopDrumBodies_of_brake (h : s.drum.state = .brake) :
    stopCoastDrumBody s = (changeDrum .off s, .ok) ∧ stopBrakeDrumBody s = (s, .ok) := by
  simp [stopCoastDrumBody, stopBrakeDrumBody, h]

theorem stopDrumBodies_of_safe (h : s.drum.state = .safe) :
    stopCoastDrumBody s = (s, .badState) ∧ stopBrakeDrumBody s = (s, .badState) := by
  simp [stopCoastDrumBody, stopBrakeDrumBody, h]

theorem stopCoastPumpBody_of_off (h : s.pump.state = .off) : stopCoastPumpBody s = (s, .ok) := by
  simp [stopCoastPumpBody, h]

theorem stopCoastPumpBody_of_on
    (h : s.pump.state = .offset ∨ s.pump.state = .align ∨ s.pump.state = .ramp ∨ s.pump.state = .closed) :
    stopCoastPumpBody s = (pumpOff s, .ok) := by
  rcases h with h | h | h | h <;> simp [stopCoastPumpBody, h]

theorem stopCoastPumpBody_of_safe (h : s.pump.state = .safe) : stopCoastPumpBody s = (s, .badState) := by
  simp [stopCoastPumpBody, h]

end

/-- Settles O33: each stop by the state it finds, on the state that the completion leaves. -/
theorem stopsByState : Obligations.StopsByState := by
  unfold Obligations.StopsByState
  refine ⟨fun s fr receiving ready => ?_, fun s fr receiving ready => ?_⟩
  · intro u off
    have answers : ∀ {r} {b : Body}, b (endBreakRun (sentWhole fr s)) = (endBreakRun (sentWhole fr s), r) →
        decideFrame (whenReady b) s = answered fr r s := decideFrame_of_refused receiving ready
    refine ⟨fun h => ?_, fun h => ?_, fun h => ?_, fun h => ?_, fun h => ?_⟩
    · obtain ⟨coast, brake⟩ := stopDrumBodies_of_off (s := endBreakRun (sentWhole fr s)) h
      exact ⟨next_congr (answers coast), next_congr (answers brake)⟩
    · obtain ⟨coast, brake⟩ := stopDrumBodies_of_waiting (s := endBreakRun (sentWhole fr s)) h
      exact ⟨next_congr (decideFrame_drumOff receiving ready coast),
        next_congr (decideFrame_drumOff receiving ready brake)⟩
    · obtain ⟨coast, brake⟩ := stopDrumBodies_of_run (s := endBreakRun (sentWhole fr s)) h
      exact ⟨next_congr (decideFrame_stopPending receiving ready coast),
        next_congr (decideFrame_stopPending receiving ready brake)⟩
    · obtain ⟨coast, brake⟩ := stopDrumBodies_of_brake (s := endBreakRun (sentWhole fr s)) h
      exact ⟨next_congr (decideFrame_drumOff receiving ready coast), next_congr (answers brake)⟩
    · obtain ⟨coast, brake⟩ := stopDrumBodies_of_safe (s := endBreakRun (sentWhole fr s)) h
      exact ⟨next_congr (answers coast), next_congr (answers brake)⟩
  · intro u
    have answers : ∀ {r} {b : Body}, b (endBreakRun (sentWhole fr s)) = (endBreakRun (sentWhole fr s), r) →
        decideFrame (whenReady b) s = answered fr r s := decideFrame_of_refused receiving ready
    refine ⟨fun h => next_congr (answers (stopCoastPumpBody_of_off h)), fun h => ?_,
      fun h => next_congr (answers (stopCoastPumpBody_of_safe h)), next_congr (answers rfl)⟩
    have stopped := stopCoastPumpBody_of_on (s := endBreakRun (sentWhole fr s)) h
    exact next_congr ((decideFrame_of_pumpOff receiving ready stopped).trans
      (congrArg _ (setResult_pumpFloated_off .ok fr s.pump s)))

/-! ### CLEAR (R98, R141) -/

section
variable {s : State}

theorem clearDrumBody_of_refused
    (h : s.drum.state ≠ .safe ∨ s.input.faultD = true ∨ (s.input.permit = false ∧ s.drum.dry = false)) :
    clearDrumBody s = (s, .badState) := by
  unfold clearDrumBody
  split_ifs with safe fault permit
  case neg => simp_all
  all_goals rfl

theorem clearDrumBody_of_taken (safe : s.drum.state = .safe) (fault : s.input.faultD = false)
    (permit : s.input.permit = true ∨ s.drum.dry = true) :
    clearDrumBody s = (changeDrum .off (s.withDrum { s.drum with cause := none }), .ok) := by
  rcases permit with permit | dry <;> simp [clearDrumBody, *]

theorem clearPumpBody_of_refused
    (h : s.pump.state ≠ .safe ∨ s.input.faultP = true ∨ (s.input.permit = false ∧ s.pump.dry = false)) :
    clearPumpBody s = (s, .badState) := by
  unfold clearPumpBody
  split_ifs with safe fault permit
  case neg => simp_all
  all_goals rfl

theorem clearPumpBody_of_taken (safe : s.pump.state = .safe) (fault : s.input.faultP = false)
    (permit : s.input.permit = true ∨ s.pump.dry = true) :
    clearPumpBody s = (pumpOff (s.withPump { s.pump with cause := none }), .ok) := by
  rcases permit with permit | dry <;> simp [clearPumpBody, *]

end

/-- Settles O34: CLEAR's conditions, on the state that the completion leaves. -/
theorem clearLeavesSafe : Obligations.ClearLeavesSafe := by
  unfold Obligations.ClearLeavesSafe
  intro s fr receiving ready u
  refine ⟨fun h => ?_, fun safe fault permit => ?_, fun h => ?_, fun safe fault permit => ?_⟩
  · exact next_congr (decideFrame_of_refused receiving ready (clearDrumBody_of_refused h))
  · have cleared := clearDrumBody_of_taken (s := endBreakRun (sentWhole fr s)) safe fault permit
    exact next_congr ((decideFrame_of_changeDrum receiving ready (fun _ => rfl) cleared).trans
      (congrArg _ (setResult_drumFloated_off .ok fr { s.drum with cause := none } s)))
  · exact next_congr (decideFrame_of_refused receiving ready (clearPumpBody_of_refused h))
  · have cleared := clearPumpBody_of_taken (s := endBreakRun (sentWhole fr s)) safe fault permit
    exact next_congr ((decideFrame_of_pumpOff receiving ready cleared).trans
      (congrArg _ (setResult_pumpFloated_off .ok fr { s.pump with cause := none } s)))

end Sys2Proof.Machine
end

section
/-! PROOFS. What an event may do at the pump (R109, R113 to R126, R128, R135 to R139): the relations `PumpHeld`, without
a commutation, and `PumpMoves`, with one at most, and that the operations of the pump's blocks keep to them. -/

namespace Sys2Proof.Machine

/-! ### The relations -/

/-- The pump's parts agree with its state, and the stores that they are measured by hold what their frames can leave
there (R129, R130). -/
structure PumpFit (s : State) : Prop extends PumpKept s where
  rampLength : 1 ≤ s.pump.rampLength
  repeats : ∀ i : Fin 16, 1 ≤ (s.pump.ramp[i]).repeats
  nstable : 6 ≤ s.pump.profile.nstable

theorem PumpKept.fit {s : State} (h : PumpKept s) (stores : StoresInRange s) : PumpFit s :=
  ⟨h, stores.rampLength.1, fun i => (stores.ramp i).2.1, stores.profile.nstable.1⟩

/-- The invariant reads Pump State Control and the Pump Commutator alone. -/
theorem PumpFit.congr {s t : State} (h : PumpFit s) (pump : t.pump = s.pump) (comm : t.comm = s.comm) : PumpFit t := by
  have parts : t = { t with pump := s.pump, comm := s.comm } := by rw [← pump, ← comm]
  rw [parts]
  exact { h with }

theorem PumpFit.cause_eq_none {s : State} (h : PumpFit s) (safe : s.pump.state ≠ .safe) : s.pump.cause = none := by
  rw [← Option.not_isSome_iff_eq_none]
  exact mt h.cause.1 safe

/-- The step in progress goes on: the detector runs only if it ran before, and the direction and the row stand. -/
def StepHeld (s t : State) : Prop :=
  t.pump.state.detecting = true →
    s.pump.state.detecting = true ∧ t.comm.direction = s.comm.direction ∧ t.comm.stepIndex = s.comm.stepIndex

/-- The next row in the direction in force was taken by a commutation at this step tick (R109, R124). -/
def StepTaken (s t : State) : Prop :=
  t.comm.stepIndex = nextStep s.comm.direction s.comm.stepIndex ∧ t.comm.lastCommutation = some s.time.stepTick ∧
  t.comm.stepZc = none ∧ t.comm.zcRun = 0

/-- What an event that makes no commutation leaves of the pump. -/
structure PumpHeld (s t : State) : Prop where
  kept : PumpFit s → PumpFit t
  step : StepHeld s t

/-- What an event that makes one commutation at most leaves of the pump. -/
structure PumpMoves (s t : State) : Prop where
  kept : PumpFit s → PumpFit t
  step : t.pump.state.detecting = true →
    s.pump.state.detecting = true ∧ t.comm.direction = s.comm.direction ∧
    (t.comm.stepIndex = s.comm.stepIndex ∨ StepTaken s t)

/-- An event that leaves both of the pump's blocks. -/
theorem PumpHeld.still {s t : State} (pump : t.pump = s.pump) (comm : t.comm = s.comm) : PumpHeld s t :=
  ⟨fun h => h.congr pump comm, fun detecting => by simpa [pump, comm] using detecting⟩

theorem PumpHeld.refl (s : State) : PumpHeld s s := .still rfl rfl

/-- An event after which the detector does not run. -/
theorem PumpHeld.of_stopped {s t : State} (stopped : t.pump.state.detecting = false) (kept : PumpFit s → PumpFit t) :
    PumpHeld s t := ⟨kept, fun detecting => by simp [stopped] at detecting⟩

theorem PumpHeld.trans {s t u : State} (h : PumpHeld s t) (k : PumpHeld t u) : PumpHeld s u where
  kept fit := k.kept (h.kept fit)
  step detecting := by
    obtain ⟨ran, direction, row⟩ := k.step detecting
    obtain ⟨ran', direction', row'⟩ := h.step ran
    exact ⟨ran', direction.trans direction', row.trans row'⟩

/-- What comes after the event leaves both blocks. -/
theorem PumpHeld.before {s t u : State} (h : PumpHeld s t) (pump : u.pump = t.pump) (comm : u.comm = t.comm) :
    PumpHeld s u := h.trans (.still pump comm)

/-- What comes before the event leaves both blocks. -/
theorem PumpHeld.after {r s t : State} (h : PumpHeld s t) (pump : s.pump = r.pump) (comm : s.comm = r.comm) :
    PumpHeld r t := .trans (.still pump comm) h

theorem PumpHeld.moves {s t : State} (h : PumpHeld s t) : PumpMoves s t where
  kept := h.kept
  step detecting := by
    obtain ⟨ran, direction, row⟩ := h.step detecting
    exact ⟨ran, direction, .inl row⟩

/-- No commutation, and then one at most. -/
theorem PumpHeld.then_moves {s t u : State} (h : PumpHeld s t) (time : t.time = s.time) (k : PumpMoves t u) :
    PumpMoves s u where
  kept fit := k.kept (h.kept fit)
  step detecting := by
    obtain ⟨ran, direction, row⟩ := k.step detecting
    obtain ⟨ran', direction', row'⟩ := h.step ran
    refine ⟨ran', direction.trans direction', ?_⟩
    simpa only [StepTaken, row', direction', time] using row

/-- One commutation at most, and then an event that leaves the commutator and runs no detector anew. -/
theorem PumpMoves.then_held {s t u : State} (h : PumpMoves s t) (k : PumpHeld t u)
    (comm : u.pump.state.detecting = true → u.comm = t.comm) : PumpMoves s u where
  kept fit := k.kept (h.kept fit)
  step detecting := by
    obtain ⟨ran, direction, row⟩ := h.step (k.step detecting).1
    rw [StepTaken, comm detecting]
    exact ⟨ran, direction, row⟩

/-- Two signals at the two state controls, whichever goes first. -/
theorem bothMotors_pumpHeld {onDrum onPump : State → State} (drum_pump : ∀ s, (onDrum s).pump = s.pump)
    (drum_comm : ∀ s, (onDrum s).comm = s.comm) (pump : ∀ s, PumpHeld s (onPump s)) (first : Motor) (s : State) :
    PumpHeld s (bothMotors first onDrum onPump s) := by
  cases first with
  | drum => exact (pump _).after (drum_pump s) (drum_comm s)
  | pump => exact (pump s).before (drum_pump _) (drum_comm _)

theorem takeIf_pumpHeld {f : State → State} (h : ∀ s, PumpHeld s (f s)) (b : Bool) (s : State) :
    PumpHeld s (takeIf b f s) := by
  cases b with
  | true => exact h s
  | false => exact .refl s

/-! ### Stops (R126, R131, R135, R137, R140 to R143) -/

/-- An entry to SAFE at the pump's blocks: stopped, with its cause, the snapshot slot aside (R140, R143). -/
theorem enterPumpSafe_pump (c : Cause) (s : State) :
    ∃ slot, (enterPumpSafe c s).pump =
      { stoppedPump .safe s.pump with cause := some ⟨c, ⟨false, false, false⟩⟩, snapshot := slot } := by
  simp only [enterPumpSafe, joinNotice_kept, takePumpSnapshot, stopPump_eq]
  split
  · exact ⟨s.pump.snapshot, by simp [pumpFloated, stoppedPump, FurtherCauses.empty]⟩
  · exact ⟨_, rfl⟩

theorem enterPumpSafe_comm (c : Cause) (s : State) : (enterPumpSafe c s).comm = stoppedCommutator s.comm := by
  simp [enterPumpSafe, stopPump_eq, pumpFloated]

/-- A pump that stopped in OFF or SAFE (R126, R131, R135, R137). -/
theorem PumpFit.stopped {s : State} (h : PumpFit s) {st : PumpState} (off : st = .off ∨ st = .safe)
    {cause : Option CauseRecord} (listed : cause.isSome = true ↔ st = .safe) (slot : Option PumpSnapshot) :
    PumpFit { s with
      pump := { stoppedPump st s.pump with cause := cause, snapshot := slot }, comm := stoppedCommutator s.comm } := by
  refine { h with
    cause := listed, due := nofun, deadline := nofun, rampTime := ?_, position := ?_, row := nofun
    pendingDuty := fun _ => rfl, stableRing := ?_, closedRing := ?_ }
  all_goals rcases off with rfl | rfl <;> simp [stoppedPump]

theorem enterPumpSafe_pumpHeld (c : Cause) (s : State) : PumpHeld s (enterPumpSafe c s) := by
  refine .of_stopped (by simp [PumpState.detecting]) fun h => ?_
  obtain ⟨slot, pump⟩ := enterPumpSafe_pump c s
  exact (h.stopped (.inr rfl) (by simp) slot).congr pump (enterPumpSafe_comm c s)

/-- A pump whose cause record is emptied goes to OFF (R141, R142). -/
theorem pumpOff_fit {s : State} (h : PumpFit s) : PumpFit (pumpOff (s.withPump { s.pump with cause := none })) :=
  (h.stopped (.inl rfl) (cause := none) (by simp) s.pump.snapshot).congr
    (by simp [pumpOff, pumpStateNotice, stopPump_eq, pumpFloated, stoppedPump])
    (by simp [pumpOff, pumpStateNotice, stopPump_eq, pumpFloated])

theorem pumpOff_pumpHeld {s : State} (safe : s.pump.state ≠ .safe) : PumpHeld s (pumpOff s) := by
  refine .of_stopped (by simp [pumpOff, pumpStateNotice, PumpState.detecting]) fun h => ?_
  have none : s.withPump { s.pump with cause := none } = s := by rw [← h.cause_eq_none safe]; rfl
  exact none ▸ pumpOff_fit h

theorem addPumpCause_pumpHeld (c : Cause) (s : State) : PumpHeld s (addPumpCause c s) where
  kept h := { h with cause := by simpa [addPumpCause] using h.cause }
  step detecting := ⟨detecting, rfl, rfl⟩

theorem pumpGateFault_pumpHeld (s : State) : PumpHeld s (pumpGateFault s) := by
  unfold pumpGateFault
  split
  case h_1 => exact .refl s
  case h_6 => exact addPumpCause_pumpHeld _ s
  all_goals exact enterPumpSafe_pumpHeld _ s

theorem pumpPermitLost_pumpHeld (s : State) : PumpHeld s (pumpPermitLost s) := by
  unfold pumpPermitLost
  split
  case h_4 => exact addPumpCause_pumpHeld _ s
  case h_5 | h_6 => exact .refl s
  all_goals
    split
    · exact .refl s
    · exact enterPumpSafe_pumpHeld _ s

theorem pumpOverTemp_pumpHeld (s : State) : PumpHeld s (pumpOverTemp s) := by
  unfold pumpOverTemp
  split
  · exact enterPumpSafe_pumpHeld _ s
  · exact .refl s

theorem pumpLinkBreak_pumpHeld (s : State) : PumpHeld s (pumpLinkBreak s) := by
  unfold pumpLinkBreak
  split
  case h_4 => exact addPumpCause_pumpHeld _ s
  case h_5 | h_6 => exact .refl s
  all_goals exact enterPumpSafe_pumpHeld _ s

/-! ### The way from OFF to RAMP (R131 to R135) -/

/-- The pump's blocks in ALIGN: the start index, no run, no crossing and no on-time (R134; log 12, 13). -/
def alignedComm (p : PumpControl) (c : Commutator) : Commutator :=
  { c with
    stepIndex := p.profile.startIndex
    lastZc := none
    zcRun := 0
    firstSample := none
    stepZc := none
    onTime := 0 }

/-- Pump State Control in ALIGN, entered at this tick (R134, R138). -/
def alignedPump (now : Tick) (p : PumpControl) : PumpControl :=
  { p with
    state := .align
    alignCount := 0
    currentSum := 0
    currentCount := 0
    alignEntry := some now
    alignStarts := 0 }

theorem enterAlign_eq (s : State) :
    enterAlign s = joinNotice (.pumpState .align)
      (commandStep ((s.withComm (alignedComm s.pump s.comm)).withPump (alignedPump s.time.tick s.pump))) := rfl

theorem enterAlign_parts (s : State) :
    (enterAlign s).comm = alignedComm s.pump s.comm ∧ (enterAlign s).pump = alignedPump s.time.tick s.pump := by
  simp [enterAlign_eq]

/-- In OFF and OFFSET nothing of a commutation and nothing of the ramp is pending. -/
theorem PumpFit.idle {s : State} (h : PumpFit s) (idle : s.pump.state = .off ∨ s.pump.state = .offset) :
    s.pump.cause = none ∧ s.comm.due = none ∧ s.comm.deadline = none ∧ s.pump.rampTime = none ∧
      s.pump.rampPosition = none := by
  have due := mt h.due
  have deadline := mt h.deadline
  have time := mt h.rampTime.1
  have position := mt h.position.1
  rcases idle with st | st <;> simp_all [h.cause_eq_none]

theorem PumpFit.position_of_off {s : State} (h : PumpFit s) (off : s.pump.state = .off) :
    s.pump.rampPosition = none := by
  obtain ⟨-, -, -, -, position⟩ := h.idle (.inl off)
  exact position

theorem enterAlign_fit {s : State} (h : PumpFit s) (idle : s.pump.state = .off ∨ s.pump.state = .offset)
    (ring : min s.pump.stable 6 ≤ s.comm.ring.length) : PumpFit (enterAlign s) := by
  obtain ⟨comm, pump⟩ := enterAlign_parts s
  obtain ⟨cause, due, deadline, time, position⟩ := h.idle idle
  refine PumpFit.congr (s := { s with comm := alignedComm s.pump s.comm, pump := alignedPump s.time.tick s.pump })
    { h with
      cause := ?_, due := ?_, deadline := ?_, rampTime := ?_, position := ?_
      pendingDuty := nofun, stableRing := fun _ => ring, closedRing := nofun
      zcRun := Nat.zero_le _, count := Nat.zero_le _ } pump comm
  all_goals simp [alignedComm, alignedPump, *]

/-- ALIGN is entered from OFF and OFFSET (R132, R133). -/
theorem enterAlign_pumpHeld {s : State} (offset : s.pump.state = .offset) : PumpHeld s (enterAlign s) :=
  .of_stopped (by simp [enterAlign_spec, PumpState.detecting]) fun h =>
    enterAlign_fit h (.inr offset) (h.stableRing (.inl offset))

theorem enterPumpOffset_parts (s : State) :
    (enterPumpOffset s).comm = s.comm ∧
      (enterPumpOffset s).pump = { s.pump with state := .offset, calib := .zero } := by
  simp [enterPumpOffset, pumpStateNotice]

/-- The state with the counters and the ring of a START (R132). -/
theorem startPumpCounters_fit {s : State} (h : PumpFit s) (off : s.pump.state = .off) :
    PumpFit (startPumpCounters s) :=
  { h with
    ring := Nat.zero_le _, intervals := nofun, overRun := Nat.zero_le _
    stableRing := fun on => by simp [startPumpCounters, off] at on
    closedRing := fun closed => by simp [startPumpCounters, off] at closed }

theorem acceptStartPump_fit {s : State} (h : PumpFit s) (off : s.pump.state = .off) : PumpFit (acceptStartPump s) := by
  have started := startPumpCounters_fit h off
  have idle : (startPumpCounters s).pump.state = .off := off
  obtain ⟨cause, due, deadline, time, position⟩ := started.idle (.inl idle)
  unfold acceptStartPump
  simp only
  split
  · obtain ⟨comm, pump⟩ := enterPumpOffset_parts (startPumpCounters s)
    refine PumpFit.congr
      (s := (startPumpCounters s).withPump { (startPumpCounters s).pump with state := .offset, calib := .zero })
      { started with
        cause := ?_, due := ?_, deadline := ?_, rampTime := ?_, position := ?_
        pendingDuty := nofun, stableRing := fun _ => Nat.zero_le _, closedRing := nofun } pump comm
    all_goals simp [*]
  · exact enterAlign_fit started (.inl idle) (Nat.zero_le _)

theorem acceptStartPump_pumpHeld {s : State} (off : s.pump.state = .off) : PumpHeld s (acceptStartPump s) := by
  refine .of_stopped ?_ fun h => acceptStartPump_fit h off
  unfold acceptStartPump
  simp only
  split
  · rw [(enterPumpOffset_parts _).2]; rfl
  · rw [(enterAlign_spec _).1]; rfl

/-- At the peak that ends ALIGN the pump enters RAMP at row 0 (R134, R135). -/
theorem alignAtPeak_fit {s : State} (h : PumpFit s) : PumpFit (alignAtPeak s) := by
  unfold alignAtPeak
  split
  case isTrue align =>
    have due := mt h.due
    have deadline := mt h.deadline
    have cause := h.cause_eq_none (by simp [align.1])
    refine PumpFit.congr (s := { s with
      comm := { s.comm with blanking := s.pump.profile.blanking }
      pump := { s.pump with
        state := .ramp
        rampPosition := some ⟨0, 0⟩
        rampTime := some (later s.time.stepTick s.pump.ramp[0].interval)
        currentSum := 0
        currentCount := 0 } })
      { h with
        cause := ?_, due := ?_, deadline := ?_, rampTime := ?_, position := ?_
        row := ?_
        pendingDuty := nofun, closedRing := nofun, count := Nat.zero_le _
        stableRing := fun _ => h.stableRing (.inr (.inl align.1)) }
      (by simp [enterRamp, pumpStateNotice]) (by simp [enterRamp, pumpStateNotice])
    case refine_6 =>
      rintro p ⟨rfl⟩
      exact ⟨h.rampLength, h.repeats 0⟩
    all_goals simp_all
  case isFalse => exact h

/-! ### The commutation (R124) -/

/-- A commutation at the commutator: the next row, timed from the step's crossing or else the virtual one, with a
deadline in CLOSED (R117, R121, R124). -/
theorem commutate_comm (kind : StepKind) (virtual : Option Tick) (s : State) :
    (commutate kind virtual s).comm =
      commutated (closingZc virtual s)
        (if s.pump.state = .closed then some (later s.time.stepTick (timeoutSpan s)) else none) s := by
  simp [commutate, commutated, clearCurrent, closingZc, timeoutSpan, ringSum]

theorem commutate_pump (kind : StepKind) (virtual : Option Tick) (s : State) :
    (commutate kind virtual s).pump = { s.pump with currentSum := 0, currentCount := 0 } := by
  simp [commutate, clearCurrent]

theorem commutate_fit (kind : StepKind) (virtual : Option Tick) {s : State} (h : PumpFit s) :
    PumpFit (commutate kind virtual s) := by
  refine PumpFit.congr (s := { s with
      comm := commutated (closingZc virtual s)
        (if s.pump.state = .closed then some (later s.time.stepTick (timeoutSpan s)) else none) s
      pump := { s.pump with currentSum := 0, currentCount := 0 } })
    { h with due := nofun, deadline := fun some => ?_, marks := ?_, zcRun := Nat.zero_le _, count := Nat.zero_le _ }
    (commutate_pump kind virtual s) (commutate_comm kind virtual s)
  · by_contra other
    simp [commutated, if_neg other] at some
  · simpa [commutated] using h.marks

theorem commutate_moves (kind : StepKind) (virtual : Option Tick) (s : State) :
    PumpMoves s (commutate kind virtual s) where
  kept := commutate_fit kind virtual
  step detecting := by
    rw [(commutate_still kind virtual s).1] at detecting
    rw [StepTaken, commutate_comm]
    exact ⟨detecting, rfl, .inr ⟨rfl, rfl, rfl, rfl⟩⟩

/-- The commutator once the crossing `z` has timed its commutation (R116, R120, R123). -/
def timedComm (z : Tick) (s : State) : Commutator :=
  { s.comm with due := some (later z (commutationDelay s)), deadline := none, zcMisses := 0 }

theorem timeCommutation_eq (z : Tick) (s : State) :
    timeCommutation z s =
      if reached (later z (commutationDelay s)) s.time.stepTick then commutate .accepted none (s.withComm (timedComm z s))
      else s.withComm (timedComm z s) := rfl

theorem timeCommutation_moves (z : Tick) {s : State} (closed : s.pump.state = .closed) :
    PumpMoves s (timeCommutation z s) := by
  have timed : PumpHeld s (s.withComm (timedComm z s)) :=
    ⟨fun h => { h with due := fun _ => closed, deadline := nofun }, fun detecting => ⟨detecting, rfl, rfl⟩⟩
  rw [timeCommutation_eq]
  split
  · exact timed.then_moves rfl (commutate_moves _ _ _)
  · exact timed.moves

/-! ### An accepted crossing (R116 to R118, R136) -/

theorem length_pushRing_some (ring : List Nat) (i : Nat) : (pushRing ring (some i)).length = min (ring.length + 1) 6 := by
  simp only [pushRing, List.length_drop, List.length_append, List.length_singleton]
  omega

theorem mem_pushRing {ring : List Nat} {interval : Option Nat} {n : Nat} (h : n ∈ pushRing ring interval) :
    n ∈ ring ∨ interval = some n := by
  cases interval with
  | none => exact .inl h
  | some i =>
    rcases List.mem_append.1 (List.mem_of_mem_drop h) with old | new
    · exact .inl old
    · exact .inr (by rw [List.mem_singleton.1 new])

theorem intervalFrom_le {last : Option Tick} {z : Tick} {i : Nat} (h : intervalFrom last z = some i) : i ≤ 16777215 := by
  obtain ⟨l, -, rfl⟩ := Option.map_eq_some_iff.1 h
  exact Nat.min_le_right _ _

theorem nearRow_isSome {row : RampRow} {interval : Option Nat} (h : nearRow row interval = true) :
    interval.isSome = true := by
  cases interval with
  | none => cases h
  | some => rfl

/-- The commutator with the crossing `z` accepted (R116 to R118). -/
def acceptedComm (z : Tick) (c : Commutator) : Commutator :=
  { c with stepZc := some z, firstSample := none, zcRun := 3, ring := pushRing c.ring (intervalFrom c.lastZc z) }

theorem acceptCrossing_eq (z : Tick) (s : State) :
    acceptCrossing z s =
      let t := s.withComm (acceptedComm z s.comm)
      let u := if s.pump.state = .ramp then countStable (intervalFrom s.comm.lastZc z) t else t
      if u.pump.state = .closed then timeCommutation z u else u := rfl

/-- The ring grows up to six intervals, and loses none of them (R118). -/
theorem acceptedComm_fit (z : Tick) {s : State} (h : PumpFit s) : PumpFit (s.withComm (acceptedComm z s.comm)) := by
  have length : (pushRing s.comm.ring (intervalFrom s.comm.lastZc z)).length ≤ 6 ∧
      s.comm.ring.length ≤ (pushRing s.comm.ring (intervalFrom s.comm.lastZc z)).length := by
    have six := h.ring
    cases intervalFrom s.comm.lastZc z with
    | none => exact ⟨six, le_rfl⟩
    | some i =>
      rw [length_pushRing_some]
      omega
  exact { h with
    ring := length.1
    intervals := fun i hi => (mem_pushRing hi).elim (h.intervals i) intervalFrom_le
    stableRing := fun on => (h.stableRing on).trans length.2
    closedRing := fun closed => le_antisymm length.1 ((h.closedRing closed).ge.trans length.2)
    zcRun := le_rfl }

/-- In RAMP the stable count does not run ahead of the ring: at Nstable the ring holds six intervals (R118, R136). -/
theorem countStable_fit {interval : Option Nat} {s : State} (h : PumpFit s) (ramp : s.pump.state = .ramp)
    (grown : interval.isSome = true → min (s.pump.stable + 1) 6 ≤ s.comm.ring.length) :
    PumpFit (countStable interval s) := by
  have counted : ∀ n, min n 6 ≤ s.comm.ring.length → PumpFit (s.withPump { s.pump with stable := n }) := fun n hn =>
    { h with stableRing := fun _ => hn }
  unfold countStable
  split
  case h_1 => exact h
  case h_2 p position =>
    simp only
    split
    case isTrue near =>
      have room := grown (nearRow_isSome near)
      split
      case isTrue stable =>
        have six : s.comm.ring.length = 6 := by
          have full : s.pump.profile.nstable ≤ s.pump.stable + 1 := stable
          have ring := h.ring
          have nstable := h.nstable
          omega
        have cause := h.cause_eq_none (by simp [ramp])
        refine PumpFit.congr (s := s.withPump { s.pump with
            stable := s.pump.stable + 1
            state := .closed
            rampPosition := none
            rampTime := none
            dutyInForce := (s.pump.ramp[p.row]).duty })
          { h with
            cause := by simp [cause], due := fun _ => rfl, deadline := fun _ => rfl
            rampTime := by simp, position := by simp, row := nofun, pendingDuty := nofun
            stableRing := by simp, closedRing := fun _ => six }
          (by simp [enterClosed, pumpStateNotice]) (by simp [enterClosed, pumpStateNotice])
      case isFalse => exact counted _ room
    case isFalse => exact counted 0 (Nat.zero_le _)

/-- An accepted crossing with an interval brings the ring one interval ahead (R117, R118). -/
theorem acceptedComm_grown (z : Tick) {s : State} (h : PumpFit s) (ramp : s.pump.state = .ramp)
    (some : (intervalFrom s.comm.lastZc z).isSome = true) :
    min (s.pump.stable + 1) 6 ≤ (acceptedComm z s.comm).ring.length := by
  obtain ⟨i, hi⟩ := Option.isSome_iff_exists.1 some
  have ring := h.stableRing (.inr (.inr ramp))
  simp only [acceptedComm, hi, length_pushRing_some]
  omega

theorem acceptCrossing_moves (z : Tick) (s : State) : PumpMoves s (acceptCrossing z s) := by
  rw [acceptCrossing_eq]
  extract_lets t u
  have counted : PumpHeld s u := by
    simp only [u]
    split
    case isTrue ramp =>
      exact ⟨fun h => countStable_fit (acceptedComm_fit z h) ramp (acceptedComm_grown z h ramp), fun _ =>
        ⟨by rw [ramp]; rfl, by simp [t, acceptedComm], by simp [t, acceptedComm]⟩⟩
    case isFalse => exact ⟨acceptedComm_fit z, fun detecting => ⟨detecting, rfl, rfl⟩⟩
  split
  case isTrue closed =>
    refine counted.then_moves ?_ (timeCommutation_moves z closed)
    simp only [u]
    split <;> simp [t]
  case isFalse => exact counted.moves

/-! ### The zero-crossing detector (R113 to R116) -/

theorem breakRun_pumpHeld (s : State) : PumpHeld s (breakRun s) :=
  ⟨fun h => { h with zcRun := Nat.zero_le _ }, fun detecting => ⟨detecting, rfl, rfl⟩⟩

theorem acceptCrossing_withRun (z : Tick) (n : Nat) (first : Option Tick) (s : State) :
    acceptCrossing z (s.withComm { s.comm with zcRun := n, firstSample := first }) = acceptCrossing z s := rfl

theorem examineCode_moves (startStep : Tick) (v : Int) (s : State) : PumpMoves s (examineCode startStep v s) := by
  unfold examineCode
  split
  case isTrue =>
    extract_lets first _ t
    split
    case isTrue => exact acceptCrossing_withRun first _ _ s ▸ acceptCrossing_moves first s
    case isFalse few =>
      have counted : PumpHeld s t :=
        ⟨fun h => { h with zcRun := (not_le.1 few).le }, fun detecting => ⟨detecting, rfl, rfl⟩⟩
      exact counted.moves
  case isFalse => exact (breakRun_pumpHeld s).moves

theorem floatingCode_moves (p : Word) (t : Tick) (v : Int) (s : State) : PumpMoves s (floatingCode p t v s) := by
  unfold floatingCode
  split
  · exact examineCode_moves t v s
  · exact (PumpHeld.refl s).moves

theorem floatingLost_pumpHeld (p : Word) (r : LostReason) (s : State) : PumpHeld s (floatingLost p r s) := by
  unfold floatingLost
  split
  · exact breakRun_pumpHeld s
  · exact .refl s

/-! ### The ramp and the timeout (R121, R122, R135, R136) -/

/-- The ramp position stays below the ramp length, and its steps below the row's repeats (R135). -/
theorem advanceRamp_pumpHeld {s : State} (ramp : s.pump.state = .ramp) : PumpHeld s (advanceRamp s) := by
  have moved : ∀ (p : RampPosition) at_,
      (PumpFit s → p.row.val < s.pump.rampLength ∧ p.repeats < (s.pump.ramp[p.row]).repeats) →
      PumpHeld s (s.withPump { s.pump with rampPosition := some p, rampTime := some at_ }) := fun p at_ row =>
    ⟨fun h => { h with
      rampTime := by simp [ramp], position := by simp [ramp]
      row := by rintro _ ⟨rfl⟩; exact row h }, fun detecting => ⟨detecting, rfl, rfl⟩⟩
  unfold advanceRamp
  split
  case h_1 => exact .refl s
  case h_2 p position =>
    simp only
    split
    case isTrue again => exact moved _ _ fun h => ⟨(h.row p position).1, again⟩
    case isFalse =>
      split
      case isTrue next => exact moved _ _ fun h => ⟨next.2, h.repeats _⟩
      case isFalse => exact enterPumpSafe_pumpHeld _ s

theorem advanceRamp_comm {s : State} (detecting : (advanceRamp s).pump.state.detecting = true) :
    (advanceRamp s).comm = s.comm := by
  revert detecting
  unfold advanceRamp
  split
  · exact fun _ => rfl
  · simp only
    split
    · exact fun _ => rfl
    · split
      · exact fun _ => rfl
      · simp [PumpState.detecting]

theorem rampCommutation_moves {s : State} (ramp : s.pump.state = .ramp) : PumpMoves s (rampCommutation s) := by
  have commutated := commutate_moves .ramp none s
  have still : (commutate .ramp none s).pump.state = .ramp := (commutate_still _ _ s).1.trans ramp
  have unstable : ∀ u : State, PumpHeld u (u.withPump { u.pump with stable := 0 }) := fun u =>
    ⟨fun h => { h with stableRing := fun _ => Nat.zero_le _ }, fun detecting => ⟨detecting, rfl, rfl⟩⟩
  unfold rampCommutation
  extract_lets t
  split
  · exact commutated.then_held (advanceRamp_pumpHeld still) advanceRamp_comm
  · exact commutated.then_held ((unstable t).trans (advanceRamp_pumpHeld still)) advanceRamp_comm

/-- The state after a timeout has been counted (R121, R122). -/
theorem countTimeout_pumpHeld (s : State) (n : Nat) : PumpHeld s (s.withComm { s.comm with zcMisses := n }) :=
  ⟨fun h => { h with }, fun detecting => ⟨detecting, rfl, rfl⟩⟩

theorem zcMissNotice_pumpHeld (first : Bool) (i : Fin 6) (s : State) : PumpHeld s (zcMissNotice first i s) :=
  .still (by simp) (by simp)

theorem takeTimeout_moves (d : Tick) (s : State) : PumpMoves s (takeTimeout d s) := by
  unfold takeTimeout
  extract_lets first _ t
  have counted : PumpHeld s t := countTimeout_pumpHeld s _
  split
  · exact (counted.then_moves rfl (commutate_moves _ _ t)).then_held (zcMissNotice_pumpHeld _ _ _) fun _ => by simp
  · exact ((counted.trans (zcMissNotice_pumpHeld _ _ t)).trans (enterPumpSafe_pumpHeld _ _)).moves

/-! ### Current samples and calibration (R133, R138, R139) -/

theorem addSample_pumpHeld (v : Int) (s : State) : PumpHeld s (addSample v s) := by
  unfold addSample
  split
  case isTrue room => exact ⟨fun h => { h with count := room }, fun detecting => ⟨detecting, rfl, rfl⟩⟩
  case isFalse => exact .refl s

theorem currentSample_pumpHeld (raw : Code) (v : Int) (s : State) : PumpHeld s (currentSample raw v s) := by
  have counted : ∀ (u : State) n, n ≤ 3 → PumpHeld u (u.withPump { u.pump with overRun := n }) := fun u n hn =>
    ⟨fun h => { h with overRun := hn }, fun detecting => ⟨detecting, rfl, rfl⟩⟩
  have added := addSample_pumpHeld v s
  unfold currentSample
  simp only
  split
  · have counts := added.trans (counted _ _ (runUp_le 3 (addSample v s).pump.overRun))
    split
    · exact counts.trans (enterPumpSafe_pumpHeld _ _)
    · exact counts
  · exact added.trans (counted _ 0 (Nat.zero_le _))

theorem endPumpCalibration_pumpHeld {s : State} (offset : s.pump.state = .offset) : PumpHeld s (endPumpCalibration s) := by
  have noted : PumpHeld s (joinNotice (.offsetDone .pump (calibratedOffset s.pump.calib.sum))
      (writeOffset .pumpShunt (calibratedOffset s.pump.calib.sum) s)) := .still (by simp) (by simp)
  unfold endPumpCalibration
  simp only
  split
  · split
    · exact noted.trans (enterAlign_pumpHeld (by simpa using offset))
    · exact noted.trans (enterPumpSafe_pumpHeld _ _)
  · exact enterPumpSafe_pumpHeld _ s

theorem pumpCalibrationCode_pumpHeld (p : Word) (raw : Code) {s : State} (offset : s.pump.state = .offset) :
    PumpHeld s (pumpCalibrationCode p raw s) := by
  have sampled : PumpHeld s (s.withPump { s.pump with calib := s.pump.calib.sample raw }) :=
    ⟨fun h => { h with }, fun detecting => ⟨detecting, rfl, rfl⟩⟩
  unfold pumpCalibrationCode
  simp only
  split
  · split
    · exact sampled.trans (endPumpCalibration_pumpHeld offset)
    · exact sampled
  · exact .refl s

theorem pumpShuntCode_pumpHeld (p : Word) (t : Tick) (raw : Code) (v : Int) (s : State) :
    PumpHeld s (pumpShuntCode p t raw v s) := by
  unfold pumpShuntCode
  split
  case isTrue offset => exact pumpCalibrationCode_pumpHeld p raw offset
  case isFalse =>
    split
    · exact currentSample_pumpHeld raw v s
    · exact .refl s

end Sys2Proof.Machine
end

section
/-! PROOFS. That the requests, the period starts, the frames and every other command keep to `PumpHeld` or `PumpMoves`; the
pump's invariant, and its step index. -/

namespace Sys2Proof.Machine

/-! ### Delivery and requests (R48 to R51, R55, R57, R115) -/

theorem deliverLost_pumpHeld (r : Request) (reason : LostReason) (s : State) : PumpHeld s (deliverLost r reason s) := by
  rw [deliverLost_eq]
  have broken : PumpHeld s (breakRun s) := breakRun_pumpHeld s
  by_cases h : (afterLost reason r s).comm = s.comm
  · exact .still rfl h
  · refine broken.before rfl ?_
    simp only [afterLost] at h ⊢
    split
    case isTrue => rfl
    case isFalse none => exact absurd (if_neg none) h

theorem joinRequest_pumpHeld (r : Request) (s : State) : PumpHeld s (joinRequest r s) := by
  unfold joinRequest
  split
  case h_1 old _ =>
    have lost := deliverLost_pumpHeld old .superseded (s.withQueue (s.sched.queue.eraseP r.sameKey))
    exact (lost.after (by simp) (by simp)).before (by simp) (by simp)
  case h_2 =>
    split
    · exact .still (by simp) (by simp)
    · exact deliverLost_pumpHeld _ _ s

theorem makeRequest_pumpHeld (r : Request) (s : State) : PumpHeld s (makeRequest r s) := by
  unfold makeRequest
  split
  · exact joinRequest_pumpHeld r s
  · exact .refl s

theorem unassign_pumpHeld (m : Measurand) (s : State) : PumpHeld s (unassign m s) := by
  have each : ∀ (l : List Request) (t : State), PumpHeld s t →
      PumpHeld s (l.foldl (fun u r => deliverLost r .unassigned u) t) := by
    intro l
    induction l with
    | nil => exact fun t h => h
    | cons r rest ih => exact fun t h => ih _ (h.trans (deliverLost_pumpHeld r _ t))
  exact each _ _ (.still (by simp) (by simp))

theorem houseRequests_pumpHeld (s : State) : PumpHeld s (houseRequests s) := by
  unfold houseRequests
  simp only
  split
  · exact ((makeRequest_pumpHeld _ s).trans (makeRequest_pumpHeld _ _)).trans (makeRequest_pumpHeld _ _)
  · exact makeRequest_pumpHeld _ s

theorem planRequest_pumpHeld (w : Nat) (p : Option RequestSpan) (s : State) : PumpHeld s (planRequest w p s) := by
  unfold planRequest
  split
  · exact .refl s
  · exact makeRequest_pumpHeld _ s

theorem pumpRequests_pumpHeld (s : State) : PumpHeld s (pumpRequests s) := by
  unfold pumpRequests
  simp only
  split
  · split
    · exact (makeRequest_pumpHeld _ s).trans (makeRequest_pumpHeld _ _)
    · exact makeRequest_pumpHeld _ s
  · exact .refl s

/-! ### The drum period start (R17, R18, R40) -/

theorem permitChanged_pumpHeld (before : State) (first : Motor) (s : State) :
    PumpHeld s (permitChanged before first s) := by
  unfold permitChanged
  simp only
  split
  · exact .still (by simp) (by simp)
  · exact (bothMotors_pumpHeld (by simp) (by simp) pumpPermitLost_pumpHeld first _).after (by simp) (by simp)

theorem takePermit_pumpHeld (sample : Bool) (first : Motor) (s : State) : PumpHeld s (takePermit sample first s) := by
  unfold takePermit
  simp only
  split
  · exact .still rfl rfl
  · exact (permitChanged_pumpHeld s first _).after rfl rfl

theorem applyPlan_pumpHeld (s : State) : PumpHeld s (applyPlan s) := by
  unfold applyPlan
  simp only
  split
  · split
    · exact .still (by simp) (by simp)
    · exact ((planRequest_pumpHeld 1 _ _).trans (planRequest_pumpHeld 2 _ _)).after (by simp) (by simp)
  · exact .still (by simp) (by simp)

theorem calibrateDrum_pumpHeld (s : State) : PumpHeld s (calibrateDrum s) := by
  unfold calibrateDrum
  split
  · split
    · exact .still (by simp) (by simp)
    · exact (makeRequest_pumpHeld _ _).after (by simp) (by simp)
  · exact .refl s

theorem pumpHeld_kept (s : State) : KeptByPeriodStart fun _ t => PumpHeld s t where
  permit sample first _ t h := h.trans (takePermit_pumpHeld sample first t)
  stop _ _ h := h.before (by simp) (by simp)
  run _ _ h := h.before (by simp) (by simp)
  openHouse _ _ h := h.before (by simp) (by simp)
  house _ t h := h.trans (houseRequests_pumpHeld t)
  plan _ t h := h.trans (applyPlan_pumpHeld t)
  calibrate _ t h := h.trans (calibrateDrum_pumpHeld t)
  trip _ _ h := h.before (by simp) (by simp)

theorem drumPeriodStart_pumpHeld (permit : Bool) (o : PeriodOrder) (s : State) :
    PumpHeld s (drumPeriodStart permit o s) := by
  have begun : PumpHeld s (beginDrumPeriod s) := .still (by simp) (by simp)
  have closing := (pumpHeld_kept s).upToClose permit o (b := false) begun
  exact (pumpHeld_kept s).afterClosed permit o (b := false)
    (closing.before (by simp [upToClosed]) (by simp [upToClosed]))

/-! ### The pump period start (R110, R113, R133, R134, R137) -/

theorem applyPendingDuty_pumpHeld (s : State) : PumpHeld s (applyPendingDuty s) := by
  unfold applyPendingDuty
  split
  · split
    · exact ⟨fun h => { h with pendingDuty := fun _ => rfl }, fun detecting => ⟨detecting, rfl, rfl⟩⟩
    · exact .refl s
  · exact .refl s

theorem countAlign_pumpHeld (s : State) : PumpHeld s (countAlign s) :=
  ⟨fun h => { h with }, fun detecting => ⟨detecting, rfl, rfl⟩⟩

theorem fixOnTime_pumpHeld (s : State) : PumpHeld s (fixOnTime s) :=
  ⟨fun h => { h with }, fun detecting => ⟨detecting, rfl, rfl⟩⟩

theorem length_pushMark_le (marks : List DetectionMark) (m : DetectionMark) : (pushMark marks m).length ≤ 2 := by
  simp only [pushMark, List.length_drop, List.length_append, List.length_singleton]
  omega

theorem markPeriod_pumpHeld (s : State) : PumpHeld s (markPeriod s) := by
  unfold markPeriod
  split
  · extract_lets examined _ t
    have marked : PumpHeld s t :=
      ⟨fun h => { h with marks := length_pushMark_le _ _ }, fun detecting => ⟨detecting, rfl, rfl⟩⟩
    split
    · exact marked.trans (breakRun_pumpHeld t)
    · exact marked
  · exact ⟨fun h => { h with marks := Nat.zero_le _ }, fun detecting => ⟨detecting, rfl, rfl⟩⟩

theorem calibratePump_pumpHeld (b : Bool) (s : State) : PumpHeld s (calibratePump b s) := by
  have request : ∀ t, PumpHeld t (pumpCalibrationRequest t) := fun t => makeRequest_pumpHeld _ t
  have counted : ∀ c, PumpHeld s (s.withPump { s.pump with calib := c }) := fun c =>
    ⟨fun h => { h with }, fun detecting => ⟨detecting, rfl, rfl⟩⟩
  unfold calibratePump
  split
  · exact (takeIf_pumpHeld request b s).trans (enterPumpSafe_pumpHeld _ _)
  · exact (counted _).trans (request _)

theorem openPumpPeriod_pumpHeld (b : Bool) (s : State) : PumpHeld s (openPumpPeriod b s) := by
  unfold openPumpPeriod
  extract_lets t
  have opened : PumpHeld s t :=
    (((applyPendingDuty_pumpHeld s).trans (countAlign_pumpHeld _)).trans (fixOnTime_pumpHeld _)).trans
      (markPeriod_pumpHeld _)
  split
  · exact (opened.before (by simp) (by simp)).trans (pumpRequests_pumpHeld (commandStep t))
  · split
    · exact opened.trans (calibratePump_pumpHeld b t)
    · exact opened

/-! ### Frames -/

theorem atCompletion_pumpHeld {f : FrameInProgress → State → State} (hf : ∀ fr s, PumpHeld s (f fr s)) (s : State) :
    PumpHeld s (atCompletion f s) := by
  unfold atCompletion
  split
  · split
    · exact hf _ s
    · split
      · exact .still rfl rfl
      · split
        · exact (hf _ (beginFrame s)).after rfl rfl
        · exact .refl s
  · exact .still rfl rfl

theorem decideFrame_pumpHeld {b : Body} (hb : ∀ s, PumpHeld s (b s).1) (s : State) : PumpHeld s (decideFrame b s) := by
  refine atCompletion_pumpHeld (fun fr t => ?_) s
  have acted : PumpHeld t (b (endBreakRun (sentWhole fr t))).1 := (hb _).after rfl rfl
  exact acted.before (by simp [runBody]) (by simp [runBody])

theorem whenReady_pumpHeld {b : Body} (hb : ∀ s, PumpHeld s (b s).1) (s : State) : PumpHeld s (whenReady b s).1 := by
  unfold whenReady
  split
  · exact hb s
  · exact .refl s

theorem shortFrame_pumpHeld (bits : Nat) (s : State) : PumpHeld s (shortFrame bits s) :=
  atCompletion_pumpHeld (fun _ _ => .still (by simp [endBreakRun, sentShort, endFrame])
    (by simp [endBreakRun, sentShort, endFrame])) s

theorem linkBreak_pumpHeld (first : Motor) (s : State) : PumpHeld s (linkBreak first s) :=
  (bothMotors_pumpHeld (by simp) (by simp) pumpLinkBreak_pumpHeld first _).after (by simp) (by simp)

theorem breakFrame_pumpHeld (first : Motor) (s : State) : PumpHeld s (breakFrame first s) := by
  refine atCompletion_pumpHeld (fun fr t => ?_) s
  extract_lets u _ v
  have sent : PumpHeld t v := .still rfl rfl
  split
  · exact (sent.trans (linkBreak_pumpHeld first v)).before (by simp) (by simp)
  · exact sent.before (by simp) (by simp)

theorem checkErrorBody_pumpHeld (s : State) : PumpHeld s (checkErrorBody s).1 := by
  unfold checkErrorBody
  simp only
  split <;> exact .still (by simp) (by simp)

theorem setupBody_pumpHeld (f : SetupFields) (permit : Bool) (s : State) : PumpHeld s (setupBody f permit s).1 := by
  unfold setupBody
  split
  · exact .refl s
  · have permitted : PumpHeld s (takePermit permit .drum (setUp f s)) :=
      (takePermit_pumpHeld permit .drum (setUp f s)).after rfl rfl
    have planned := permitted.trans (applyPlan_pumpHeld _)
    have opened : PumpHeld s (openHouse (applyPlan (takePermit permit .drum (setUp f s)))) :=
      planned.before (by simp) (by simp)
    exact (opened.trans (houseRequests_pumpHeld _)).trans (openPumpPeriod_pumpHeld false _)

theorem dutyBody_pumpHeld (d : PerPhase Word) (s : State) : PumpHeld s (dutyBody d s).1 := by
  have filled : PumpHeld s (fillSlot d s) := by
    rw [fillSlot_eq]
    exact .still rfl rfl
  unfold dutyBody
  split
  case h_1 | h_2 => exact filled
  all_goals exact .refl s

/-- A pending duty waits in every state but SAFE (R137). -/
theorem setPendingDuty_pumpHeld (duty : Word) {s : State} (safe : s.pump.state ≠ .safe) :
    PumpHeld s (setPendingDuty duty s) :=
  ⟨fun h => { h with pendingDuty := fun state => absurd state safe }, fun detecting => ⟨detecting, rfl, rfl⟩⟩

/-- The direction may change in OFF alone (R137). -/
theorem withComm_held_of_off {s : State} (off : s.pump.state = .off) {c : Commutator}
    (fit : PumpFit s → PumpFit (s.withComm c)) : PumpHeld s (s.withComm c) :=
  .of_stopped (by simp [off, PumpState.detecting]) fit

theorem pumpBody_pumpHeld (direction : BitVec 2) (duty : Word) (s : State) : PumpHeld s (pumpBody direction duty s).1 := by
  unfold pumpBody
  split
  case h_1 d _ =>
    unfold pumpDutyBody
    split <;> rename_i state
    case h_1 =>
      have turned : PumpHeld s (s.withComm { s.comm with direction := d }) :=
        withComm_held_of_off state fun h => { h with }
      exact turned.trans (setPendingDuty_pumpHeld duty (by simp [state]))
    case h_2 => exact .refl s
    all_goals
      split
      · exact setPendingDuty_pumpHeld duty (by simp [state])
      · exact .refl s
  case h_2 => exact .refl s

theorem tableInputBody_pumpHeld (row : BitVec 4) (source : BitVec 2) (input : BitVec 4) (offset trip : Word)
    (s : State) : PumpHeld s (tableInputBody row source input offset trip s).1 := by
  unfold tableInputBody
  split
  · split
    · unfold writeInputRow
      simp only
      split
      · exact .still rfl rfl
      · exact (unassign_pumpHeld _ _).after rfl rfl
    · exact .refl s
  · exact .refl s

/-- A table of the pump is replaced in OFF, where no step is in progress (R107, R130). -/
theorem PumpHeld.of_off {s t : State} (off : s.pump.state = .off) (still : t.pump.state = s.pump.state)
    (fit : PumpFit s → PumpFit t) : PumpHeld s t := .of_stopped (by rw [still, off]; rfl) fit

theorem tableCommutationBody_pumpHeld (row : BitVec 4) (high low floating polarity : BitVec 2) (s : State) :
    PumpHeld s (tableCommutationBody row high low floating polarity s).1 := by
  unfold tableCommutationBody
  split
  case isTrue off =>
    repeat' split
    case h_1.isTrue => exact .of_off ((motorOff_pump_iff s).1 off) rfl fun h => { h with }
    all_goals exact .refl s
  case isFalse => exact .refl s

theorem tableProfileBody_pumpHeld (f : ProfileFields) (s : State) : PumpHeld s (tableProfileBody f s).1 := by
  unfold tableProfileBody
  split
  case isTrue off =>
    split
    · exact .of_off ((motorOff_pump_iff s).1 off) rfl fun h => { h with nstable := le_max_left 6 _ }
    · exact .refl s
  case isFalse => exact .refl s

theorem tableRampBody_pumpHeld (row : BitVec 4) (interval : BitVec 24) (repeats : BitVec 8) (duty : Word) (s : State) :
    PumpHeld s (tableRampBody row interval repeats duty s).1 := by
  unfold tableRampBody
  split
  case isTrue off =>
    have idle := (motorOff_pump_iff s).1 off
    split
    case h_1 i _ =>
      refine .of_off idle rfl fun h => { h with row := fun p position => ?_, repeats := fun j => ?_ }
      · cases position.symm.trans (h.position_of_off idle)
      · simp only [State.withPump_pump, Fin.getElem_fin, Vector.getElem_set]
        split
        · exact le_max_left 1 _
        · exact h.repeats j
    case h_2 => exact .refl s
  case isFalse => exact .refl s

theorem tableRampLengthBody_pumpHeld (length : BitVec 5) (s : State) :
    PumpHeld s (tableRampLengthBody length s).1 := by
  unfold tableRampLengthBody
  split
  case isTrue off =>
    have idle := (motorOff_pump_iff s).1 off
    refine .of_off idle rfl fun h => { h with rampLength := le_max_left 1 _, row := fun p position => ?_ }
    cases position.symm.trans (h.position_of_off idle)
  case isFalse => exact .refl s

theorem answerQuery_pumpHeld (page : State → StatusPage) {clearing : State → State}
    (h : ∀ s, PumpHeld s (clearing s)) (s : State) : PumpHeld s (answerQuery (page s) clearing s).1 :=
  (h s).before (by simp [answerQuery]) (by simp [answerQuery])

theorem emptyPumpSnapshot_pumpHeld (s : State) : PumpHeld s (emptyPumpSnapshot s) :=
  ⟨fun h => { h with }, fun detecting => ⟨detecting, rfl, rfl⟩⟩

theorem queryTableBody_pumpHeld (id row : BitVec 4) (s : State) : PumpHeld s (queryTableBody id row s).1 := by
  unfold queryTableBody
  split
  · exact .still (by simp [answerQuery]) (by simp [answerQuery])
  · exact .refl s

theorem startDrumBody_pumpHeld (s : State) : PumpHeld s (startDrumBody s).1 := by
  unfold startDrumBody
  repeat' split
  case isFalse.isFalse.isFalse.isFalse =>
    obtain ⟨st, c, -, eq⟩ := acceptStartDrum_eq s
    simp only [eq]
    exact .still (by simp [startDrumCounters]) (by simp [startDrumCounters])
  all_goals exact .refl s

theorem startPumpBody_pumpHeld (s : State) : PumpHeld s (startPumpBody s).1 := by
  unfold startPumpBody
  split
  case isTrue => exact .refl s
  case isFalse on =>
    have started := acceptStartPump_pumpHeld (not_not.1 on)
    repeat' split
    case isFalse.isFalse.isFalse.isFalse => exact started
    all_goals exact .refl s

theorem stopCoastDrumBody_pumpHeld (s : State) : PumpHeld s (stopCoastDrumBody s).1 := by
  unfold stopCoastDrumBody
  split <;> exact .still (by simp [setStopPending]) (by simp [setStopPending])

theorem stopBrakeDrumBody_pumpHeld (s : State) : PumpHeld s (stopBrakeDrumBody s).1 := by
  unfold stopBrakeDrumBody
  split <;> exact .still (by simp [setStopPending]) (by simp [setStopPending])

theorem stopCoastPumpBody_pumpHeld (s : State) : PumpHeld s (stopCoastPumpBody s).1 := by
  unfold stopCoastPumpBody
  split <;> rename_i state
  case h_1 | h_6 => exact .refl s
  all_goals exact pumpOff_pumpHeld (by simp [state])

theorem clearDrumBody_pumpHeld (s : State) : PumpHeld s (clearDrumBody s).1 := by
  unfold clearDrumBody
  repeat' split
  case isFalse.isFalse.isFalse => exact .still (by simp) (by simp)
  all_goals exact .refl s

theorem clearPumpBody_pumpHeld (s : State) : PumpHeld s (clearPumpBody s).1 := by
  unfold clearPumpBody
  repeat' split
  case isFalse.isFalse.isFalse =>
    exact .of_stopped (by simp [pumpOff, pumpStateNotice, PumpState.detecting]) pumpOff_fit
  all_goals exact .refl s

theorem setDry_pumpHeld (m : Motor) (b : Bool) (s : State) : PumpHeld s (setDry m b s) := by
  have flagged : PumpHeld s (s.withPump { s.pump with dry := b }) :=
    ⟨fun h => { h with }, fun detecting => ⟨detecting, rfl, rfl⟩⟩
  cases m with
  | drum => exact .still (by simp [setDry]) (by simp [setDry])
  | pump => exact flagged.before (by simp [setDry]) (by simp [setDry])

theorem dryBody_pumpHeld (m : Motor) (b : Bool) (s : State) : PumpHeld s (dryBody m b s).1 := by
  unfold dryBody
  split
  · exact setDry_pumpHeld m b s
  · exact .refl s

theorem setReport_pumpHeld (m : Motor) (b : Bool) (s : State) : PumpHeld s (setReport m b s) := by
  cases m with
  | drum => exact .still rfl rfl
  | pump => exact ⟨fun h => { h with }, fun detecting => ⟨detecting, rfl, rfl⟩⟩

/-! ### Events -/

/-- The reset values fit each other (R155). -/
theorem reset_pumpFit : PumpFit State.reset where
  cause := by decide
  due := nofun
  deadline := nofun
  rampTime := by decide
  position := by decide
  row := nofun
  pendingDuty := nofun
  ring := by decide
  intervals := nofun
  stableRing := by decide
  closedRing := nofun
  marks := by decide
  zcRun := by decide
  overRun := by decide
  count := by decide
  rampLength := by decide
  repeats := by decide
  nstable := by decide

theorem resetPart_pumpHeld (cause : ResetCause) (s : State) : PumpHeld s (resetPart cause s) :=
  .of_stopped rfl fun _ => reset_pumpFit.congr rfl rfl

theorem joinResetNotice_pumpHeld (s : State) : PumpHeld s (joinResetNotice s) :=
  .still (by simp [joinResetNotice]) (by simp [joinResetNotice])

theorem moveFaultLine_pumpHeld (m : Motor) (active : Bool) (s : State) : PumpHeld s (moveFaultLine m active s) := by
  cases m <;> exact .still (by simp [moveFaultLine]) (by simp [moveFaultLine])

theorem gateFault_pumpHeld (m : Motor) (s : State) : PumpHeld s (gateFault m s) := by
  cases m with
  | drum => exact .still (by simp [gateFault]) (by simp [gateFault])
  | pump => exact pumpGateFault_pumpHeld s

theorem frameBegin_pumpHeld (s : State) :
    PumpHeld s
      (if s.link.selected then s
       else if s.link.resetN then beginFrame s
       else s.withLink { s.link with selected := true }) := by
  split
  · exact .refl s
  · split <;> exact .still rfl rfl

theorem planAtPoint_pumpHeld (s : State) : PumpHeld s (planAtPoint s) := by
  have missed : PumpHeld s (countMiss s) := by
    simp only [countMiss, lateNotice]
    (repeat' split) <;> exact .still (by simp) (by simp)
  unfold planAtPoint
  split
  case h_3 => exact missed
  all_goals exact .still (by simp) (by simp)

theorem overTempCheck_pumpHeld (first : Motor) (v : Nat) (s : State) : PumpHeld s (overTempCheck first v s) := by
  have signalled := bothMotors_pumpHeld (onDrum := drumOverTemp) (by simp) (by simp) pumpOverTemp_pumpHeld first
  unfold overTempCheck
  simp only
  split
  · split
    · exact (signalled _).after rfl rfl
    · exact .still rfl rfl
  · exact .still rfl rfl

theorem deliverHouse_pumpHeld (first : Motor) (o : ConversionOutcome) (s : State) :
    PumpHeld s (deliverHouse first o s) := by
  unfold deliverHouse
  simp only
  split
  · exact .still (by simp) (by simp)
  · exact (overTempCheck_pumpHeld first _ _).after (by simp) (by simp)
  · exact .still (by simp) (by simp)

theorem deliverPump_moves (o : ConversionOutcome) (s : State) : PumpMoves s (deliverPump o s) := by
  unfold deliverPump
  split
  · exact (pumpShuntCode_pumpHeld _ _ _ _ s).moves
  · exact floatingCode_moves _ _ _ s
  · exact (floatingLost_pumpHeld _ _ s).moves
  · exact (PumpHeld.refl s).moves

theorem finishConversion_moves (c : Conversion) (raw : Code) (first : Motor) (s : State) :
    PumpMoves s (finishConversion c raw first s) := by
  have idle : PumpHeld s (idled s) := .still rfl rfl
  rw [show finishConversion c raw first s = deliver first (codeOutcome c raw s) (idled s) from rfl, deliver_code]
  split
  · exact (idle.before (by simp) (by simp)).moves
  · exact idle.then_moves rfl (deliverPump_moves _ _)
  · exact (idle.trans (deliverHouse_pumpHeld first _ _)).moves

/-! ### Every command -/

/-- Every command but the peak that ends ALIGN. -/
theorem exec_pumpMoves {c : Instr} {s t : State} (he : exec c s = .next t) (peak : c ≠ .pumpPeak) : PumpMoves s t := by
  have frame : ∀ {b : Body}, (∀ s, PumpHeld s (b s).1) → PumpMoves s (decideFrame b s) := fun hb =>
    (decideFrame_pumpHeld hb s).moves
  have ready : ∀ {b : Body}, (∀ s, PumpHeld s (b s).1) → PumpMoves s (decideFrame (whenReady b) s) := fun hb =>
    frame (whenReady_pumpHeld hb)
  have still : PumpMoves s s := (PumpHeld.refl s).moves
  have event : ∀ {b : Bool} {u : State}, (b = true → PumpMoves s u) → PumpMoves s (if b then u else s) := by
    intro b u hu
    cases b with
    | true => exact hu rfl
    | false => exact still
  have goes : ∃ u, exec c s = .next u ∧ PumpMoves s u := by
    cases c with
    | powerReset =>
      refine ⟨_, rfl, PumpHeld.moves ?_⟩
      have fresh := resetPart_pumpHeld .power s
      split
      · exact fresh.trans (joinResetNotice_pumpHeld _)
      · exact fresh
    | pinReset => exact ⟨_, rfl, PumpHeld.moves (.before (resetPart_pumpHeld .pin s) rfl rfl)⟩
    | pinResetRelease =>
      refine ⟨_, rfl, ?_⟩
      split
      · exact still
      · exact PumpHeld.moves (.after (joinResetNotice_pumpHeld _) rfl rfl)
    | frameBegin => exact ⟨_, rfl, (frameBegin_pumpHeld s).moves⟩
    | shortFrame bits => exact ⟨_, rfl, (shortFrame_pumpHeld bits s).moves⟩
    | breakFrame first => exact ⟨_, rfl, (breakFrame_pumpHeld first s).moves⟩
    | checkError => exact ⟨_, rfl, frame checkErrorBody_pumpHeld⟩
    | unknownKind | fill | queryUnknownPage => exact ⟨_, rfl, frame .refl⟩
    | controlUnknownCode | tableUnknownId | stopBrakePump => exact ⟨_, rfl, ready .refl⟩
    | setup f permit => exact ⟨_, rfl, frame (setupBody_pumpHeld f permit)⟩
    | duty d => exact ⟨_, rfl, ready (dutyBody_pumpHeld d)⟩
    | pump direction duty => exact ⟨_, rfl, ready (pumpBody_pumpHeld direction duty)⟩
    | rate half pumpHalf => exact ⟨_, rfl, ready fun _ => .still rfl rfl⟩
    | tableInput row source input offset trip =>
      exact ⟨_, rfl, ready (tableInputBody_pumpHeld row source input offset trip)⟩
    | tableCommutation row high low floating polarity =>
      exact ⟨_, rfl, ready (tableCommutationBody_pumpHeld row high low floating polarity)⟩
    | tableProfile f => exact ⟨_, rfl, ready (tableProfileBody_pumpHeld f)⟩
    | tableRamp row interval repeats duty => exact ⟨_, rfl, ready (tableRampBody_pumpHeld row interval repeats duty)⟩
    | tableRampLength length => exact ⟨_, rfl, ready (tableRampLengthBody_pumpHeld length)⟩
    | queryLink clear =>
      have cleared := takeIf_pumpHeld (f := clearLinkCounters) (fun _ => .still rfl rfl) clear
      exact ⟨_, rfl, frame (answerQuery_pumpHeld _ cleared)⟩
    | queryDrum clear =>
      have cleared := takeIf_pumpHeld (f := clearLostDrum) (fun _ => .still rfl rfl) clear
      exact ⟨_, rfl, frame (answerQuery_pumpHeld _ cleared)⟩
    | queryPump clear =>
      have cleared := takeIf_pumpHeld (f := clearLostPump) (fun _ => .still rfl rfl) clear
      exact ⟨_, rfl, frame (answerQuery_pumpHeld _ cleared)⟩
    | queryDrumSnap => exact ⟨_, rfl, frame (answerQuery_pumpHeld _ fun _ => .still rfl rfl)⟩
    | queryPumpSnap => exact ⟨_, rfl, frame (answerQuery_pumpHeld _ emptyPumpSnapshot_pumpHeld)⟩
    | queryPumpRingA | queryPumpRingB => exact ⟨_, rfl, frame (answerQuery_pumpHeld _ .refl)⟩
    | queryTable clear id row => exact ⟨_, rfl, frame (queryTableBody_pumpHeld id row)⟩
    | startDrum => exact ⟨_, rfl, ready startDrumBody_pumpHeld⟩
    | startPump => exact ⟨_, rfl, ready startPumpBody_pumpHeld⟩
    | stopCoastDrum => exact ⟨_, rfl, ready stopCoastDrumBody_pumpHeld⟩
    | stopBrakeDrum => exact ⟨_, rfl, ready stopBrakeDrumBody_pumpHeld⟩
    | stopCoastPump => exact ⟨_, rfl, ready stopCoastPumpBody_pumpHeld⟩
    | clearDrum => exact ⟨_, rfl, ready clearDrumBody_pumpHeld⟩
    | clearPump => exact ⟨_, rfl, ready clearPumpBody_pumpHeld⟩
    | dryOn m => exact ⟨_, rfl, ready (dryBody_pumpHeld m true)⟩
    | dryOff m => exact ⟨_, rfl, ready (dryBody_pumpHeld m false)⟩
    | reportOn m => exact ⟨_, rfl, ready (setReport_pumpHeld m true)⟩
    | reportOff m => exact ⟨_, rfl, ready (setReport_pumpHeld m false)⟩
    | clearFlags => exact ⟨_, rfl, ready fun _ => .still rfl rfl⟩
    | reset =>
      exact ⟨_, rfl, ready fun u => (resetPart_pumpHeld .command u).trans (joinResetNotice_pumpHeld _)⟩
    | faultLineFall m =>
      refine ⟨_, rfl, ?_⟩
      split
      · exact still
      · exact ((moveFaultLine_pumpHeld m true s).trans (gateFault_pumpHeld m _)).moves
    | faultLineRise m => exact ⟨_, rfl, event fun _ => (moveFaultLine_pumpHeld m false s).moves⟩
    | enableTimeReached m x => exact ⟨_, rfl, event fun _ => (PumpHeld.still (by simp) (by simp)).moves⟩
    | drumPeriodStart permit o => exact ⟨_, rfl, event fun _ => (drumPeriodStart_pumpHeld permit o s).moves⟩
    | planPoint => exact ⟨_, rfl, event fun _ => PumpHeld.moves (.after (planAtPoint_pumpHeld _) rfl rfl)⟩
    | planEdge x =>
      refine ⟨_, rfl, ?_⟩
      split
      · exact (PumpHeld.still (by simp) (by simp)).moves
      · exact still
    | pumpPeriodStart b => exact ⟨_, rfl, event fun _ => PumpHeld.moves (.after (openPumpPeriod_pumpHeld b _) rfl rfl)⟩
    | pumpPeak => exact absurd rfl peak
    | pumpSpanEdge => exact ⟨_, rfl, event fun _ => (PumpHeld.still (by simp) (by simp)).moves⟩
    | conversionStart =>
      refine ⟨_, rfl, ?_⟩
      split
      · exact (PumpHeld.still (by simp) (by simp)).moves
      · exact still
    | conversionDone code first =>
      refine ⟨_, rfl, ?_⟩
      split
      · exact finishConversion_moves _ code first s
      · exact still
    | requestExpiry =>
      refine ⟨_, rfl, ?_⟩
      split
      · exact ((deliverLost_pumpHeld _ _ _).after (by simp) (by simp)).moves
      · exact still
    | dueCommutation => exact ⟨_, rfl, event fun _ => commutate_moves _ _ s⟩
    | zcTimeout =>
      refine ⟨_, rfl, ?_⟩
      split
      · exact takeTimeout_moves _ s
      · exact still
    | rampCommutation =>
      exact ⟨_, rfl, event fun due => rampCommutation_moves (of_decide_eq_true (Bool.and_eq_true_iff.1 due).1)⟩
  obtain ⟨u, hu, moves⟩ := goes
  rw [hu] at he
  cases he
  exact moves

/-- The peak ends ALIGN, or leaves the pump (R134). -/
theorem pumpPeak_next {s t : State} (he : exec .pumpPeak s = .next t) :
    (PumpFit s → PumpFit t) ∧ (s.pump.state ≠ .align → t.pump = s.pump ∧ t.comm = s.comm) := by
  have next : t = if pumpPeakDue s then alignAtPeak (takePeak s) else s := by
    cases he
    rfl
  subst next
  split
  · refine ⟨fun h => alignAtPeak_fit (h.congr rfl rfl), fun other => ?_⟩
    rw [alignAtPeak, if_neg fun align => other align.1]
    exact ⟨rfl, rfl⟩
  · exact ⟨id, fun _ => ⟨rfl, rfl⟩⟩

theorem exec_pumpFit {c : Instr} {s t : State} (h : PumpFit s) (he : exec c s = .next t) : PumpFit t := by
  by_cases peak : c = .pumpPeak
  · subst peak
    exact (pumpPeak_next he).1 h
  · exact (exec_pumpMoves he peak).kept h

theorem passIdle_pump (s : State) : (passIdle s).pump = s.pump ∧ (passIdle s).comm = s.comm := by
  have ticked : ∀ u : State, (tick u).pump = u.pump ∧ (tick u).comm = u.comm := fun u => by
    unfold tick
    split <;> exact ⟨rfl, rfl⟩
  unfold passIdle
  split
  · exact ticked s
  · split
    · simp [drawFree]
    · exact ticked (drawFree s)

/-- Settles O49: the stores in range join the invariant, and every command, and the passing of time, keeps both. -/
theorem pumpStaysKept : Obligations.PumpStaysKept := by
  unfold Obligations.PumpStaysKept
  intro s t stores kept hs
  have fit := kept.fit stores
  refine PumpFit.toPumpKept ?_
  unfold step idle at hs
  split at hs
  case h_1 c rest _ => exact exec_pumpFit (s := s.withPending rest) (.congr fit rfl rfl) hs
  case h_2 =>
    split at hs
    · exact exec_pumpFit (s := drawFree s) (.congr fit rfl rfl) hs
    · cases hs
      exact fit.congr (passIdle_pump s).1 (passIdle_pump s).2

theorem PumpState.detecting_iff (st : PumpState) : st.detecting = true ↔ st = .ramp ∨ st = .closed := by
  cases st <;> simp [PumpState.detecting]

/-- Settles O38: every command makes one commutation at most, but the peak, which leaves RAMP and CLOSED alone. -/
theorem stepIndexMovesByCommutations : Obligations.StepIndexMovesByCommutations := by
  unfold Obligations.StepIndexMovesByCommutations
  intro c s t he before after
  by_cases peak : c = .pumpPeak
  · subst peak
    obtain ⟨-, comm⟩ := (pumpPeak_next he).2 (by rcases before with st | st <;> simp [st])
    rw [comm]
    exact ⟨rfl, .inl rfl⟩
  · exact ((exec_pumpMoves he peak).step ((PumpState.detecting_iff _).2 after)).2

end Sys2Proof.Machine
end

section
/-! PROOFS. The commutation (R108, R109, R112, R117 to R125, R134 to R136): the sequence check, and what DUE_COMMUTATION,
ZC_TIMEOUT and RAMP_COMMUTATION leave. -/

namespace Sys2Proof.Machine

/-! ### The sequence check (R108) -/

theorem pairWalks_iff (r next : CommutationRow) :
    pairWalks r next = true ↔
      ((next.high = r.high ∧ next.low ≠ r.low) ∨ (next.low = r.low ∧ next.high ≠ r.high)) ∧
        next.polarity ≠ r.polarity := by
  simp only [pairWalks, Bool.and_eq_true, Bool.or_eq_true, decide_eq_true_eq]

/-- The six pairs of the check are the rows with their cyclic successors. -/
theorem sequencePasses_iff (t : Vector CommutationRow 6) :
    sequencePasses t = true ↔ ∀ r : Fin 6, pairWalks t[r] t[r + 1] = true := by
  simp only [sequencePasses, Bool.and_eq_true, Fin.forall_fin_succ, and_assoc]
  exact ⟨fun ⟨h0, h1, h2, h3, h4, h5⟩ => ⟨h0, h1, h2, h3, h4, h5, nofun⟩,
    fun ⟨h0, h1, h2, h3, h4, h5, _⟩ => ⟨h0, h1, h2, h3, h4, h5⟩⟩

/-- There are three phases. -/
theorem Phase.eq_third {u v w x : Phase} (uv : u ≠ v) (vw : v ≠ w) (uw : u ≠ w) (xu : x ≠ u)
    (xv : x ≠ v) : x = w := by
  cases x <;> grind [cases Phase]

/-- Of two valid rows one of which walks to the other, the driven phase that is given up floats, and the other way
round. -/
theorem CommutationRow.swap_of_pairWalks {r next : CommutationRow} (walks : pairWalks r next = true)
    (valid : r.valid = true) (nextValid : next.valid = true) :
    (next.high = r.high ∧ next.low = r.floating ∧ next.floating = r.low) ∨
      (next.low = r.low ∧ next.high = r.floating ∧ next.floating = r.high) := by
  obtain ⟨hl, lf, hf⟩ := r.valid_iff.1 valid
  obtain ⟨nhl, nlf, nhf⟩ := next.valid_iff.1 nextValid
  rcases ((pairWalks_iff r next).1 walks).1 with ⟨high, low⟩ | ⟨low, high⟩
  · have moved : next.low = r.floating := Phase.eq_third hl lf hf (high ▸ nhl.symm) low
    exact .inl ⟨high, moved, Phase.eq_third hf lf.symm hl (high ▸ nhf.symm) (moved ▸ nlf.symm)⟩
  · have moved : next.high = r.floating := Phase.eq_third hl lf hf high (low ▸ nhl)
    exact .inr ⟨low, moved, Phase.eq_third lf hf.symm hl.symm (low ▸ nlf.symm) (moved ▸ nhf.symm)⟩

/-- Settles O39: the check pair by pair, and its consequence for a pair of valid rows. -/
theorem sequenceCheckWalksTheTable : Obligations.SequenceCheckWalksTheTable := by
  unfold Obligations.SequenceCheckWalksTheTable
  refine ⟨fun t => ?_, by decide, fun t passes valid r => ?_⟩
  · simp only [sequencePasses_iff, pairWalks_iff]
  · exact CommutationRow.swap_of_pairWalks ((sequencePasses_iff t).1 passes r) (valid r) (valid (r + 1))

/-! ### The step pattern (R111, R112) -/

theorem drive_pump_commanded_self (x : Phase) (d : Drive) (s : State) :
    ((drive .pump x d s).pumpGates.get x).commanded = d := by
  simp [drive, withGates, gatesOf]

theorem drive_pump_commanded_other {x y : Phase} (h : y ≠ x) (d : Drive) (s : State) :
    ((drive .pump x d s).pumpGates.get y).commanded = (s.pumpGates.get y).commanded := by
  simp [drive, withGates, gatesOf, PerPhase.get_set_other _ _ h]

/-- In a row of three phases the command of one phase does not touch the others (R111, R112). -/
theorem commandStep_commanded {s : State} (valid : (stepRow s).valid = true) : StepCommanded (commandStep s) := by
  obtain ⟨hl, lf, hf⟩ := (stepRow s).valid_iff.1 valid
  have row : stepRow (commandStep s) = stepRow s := by simp [stepRow]
  have level : spanLevel s =
      if s.pumpCar.half ≤ s.pumpCar.pos + s.comm.onTime ∧ s.pumpCar.pos < s.pumpCar.half + s.comm.onTime then .high
      else .low := by
    simp [spanLevel, inSpan]
  rw [StepCommanded, row]
  simp only [commandStep_kept, ← level]
  refine ⟨?_, ?_, drive_pump_commanded_self _ _ _⟩
  · exact (drive_pump_commanded_other hf _ _).trans
      ((drive_pump_commanded_other hl _ _).trans (drive_pump_commanded_self _ _ _))
  · exact (drive_pump_commanded_other lf _ _).trans (drive_pump_commanded_self _ _ _)

/-- What is commanded stands where the gates, the row in progress and the Pump Carrier do. -/
theorem StepCommanded.congr {s t : State} (h : StepCommanded s) (gates : t.pumpGates = s.pumpGates)
    (comm : t.comm = s.comm) (car : t.pumpCar = s.pumpCar) : StepCommanded t := by
  have row : stepRow t = stepRow s := by simp only [stepRow, comm]
  rw [StepCommanded, gates, row, comm, car]
  exact h

theorem commutate_commanded (kind : StepKind) (virtual : Option Tick) {s : State} (h : StoresInRange s) :
    StepCommanded (commutate kind virtual s) := by
  refine commandStep_commanded ?_
  simpa [stepRow, clearCurrent] using h.commutation _

/-! ### What a commutation leaves (R124, R125) -/

theorem commutate_rq (kind : StepKind) (virtual : Option Tick) (s : State) :
    (commutate kind virtual s).rq = (reportStep kind s).rq ∧
      (commutate kind virtual s).link = (reportStep kind s).link := by
  simp [commutate]

/-- A commutation changes the pump's blocks and its gates; a record that joins, the Record Queue and the Link Port. -/
theorem commutate_frame (kind : StepKind) (virtual : Option Tick) (s : State) :
    let t := commutate kind virtual s
    t = { s with pumpGates := t.pumpGates, comm := t.comm, pump := t.pump, link := t.link, rq := t.rq } := by
  apply State.ext_parts <;> simp

/-- DUE_COMMUTATION at its time (R120). -/
theorem exec_dueCommutation {s : State} {due : Tick} (closed : s.pump.state = .closed) (at_ : s.comm.due = some due)
    (time : reached due s.time.stepTick = true) : exec .dueCommutation s = .next (commutate .accepted none s) := by
  have due : commutationDue s = true := by simp [commutationDue, closed, at_, reachedTime, time]
  exact next_congr (if_pos due)

/-- In CLOSED, with no virtual ZC time, the step is timed from its crossing (R117, R121). -/
theorem closingZc_none (s : State) : closingZc none s = s.comm.stepZc := by
  unfold closingZc
  split <;> simp [*]

/-- Settles O40: the commutation's effect at each part. -/
theorem dueCommutationMakesStep : Obligations.DueCommutationMakesStep := by
  unfold Obligations.DueCommutationMakesStep
  intro s due closed at_ time
  obtain ⟨rq, link⟩ := commutate_rq .accepted none s
  refine ⟨_, exec_dueCommutation closed at_ time, ?_, commutate_pump _ _ s, fun silent => ?_, fun report => ?_,
    commutate_commanded _ _, commutate_frame _ _ s⟩
  · rw [commutate_comm, closingZc_none, if_pos closed]
    rfl
  · simp [rq, link, reportStep, silent]
  · rw [rq, reportStep, if_pos report, joinRecord_last]
    rfl

/-! ### The timeout (R121, R122) -/

/-- The record of the step that ends depends on what the step shows, and its joining on the queue and the Link Port. -/
theorem reportStep_congr (kind : StepKind) {s t : State} (record : stepRecord kind s = stepRecord kind t)
    (report : s.pump.report = t.pump.report) (rq : s.rq = t.rq) (link : s.link = t.link) :
    (reportStep kind s).rq = (reportStep kind t).rq ∧ (reportStep kind s).link = (reportStep kind t).link := by
  obtain ⟨joinedRq, joinedLink⟩ := joinRecord_congr (.step (stepRecord kind t)) rq
  unfold reportStep
  rw [record, report]
  split
  · exact ⟨joinedRq, joinedLink link⟩
  · exact ⟨rq, link⟩

/-- The ZC_MISS notice at the first miss of a run (R121). -/
def missNoticed (s u : State) : State :=
  if s.comm.zcMisses = 0 then joinNotice (.zcMiss s.pumpCar.period s.comm.stepIndex) u else u

@[simp] theorem missNoticed_kept (s u : State) :
    (missNoticed s u).time = u.time ∧ (missNoticed s u).drumCar = u.drumCar ∧ (missNoticed s u).pumpCar = u.pumpCar ∧
    (missNoticed s u).pumpGates = u.pumpGates ∧ (missNoticed s u).comm = u.comm ∧ (missNoticed s u).pump = u.pump := by
  unfold missNoticed
  split <;> simp

theorem missNoticed_congr (s : State) {t u : State} (rq : t.rq = u.rq) (link : t.link = u.link) (time : t.time = u.time)
    (car : t.drumCar = u.drumCar) :
    (missNoticed s t).rq = (missNoticed s u).rq ∧ (missNoticed s t).link = (missNoticed s u).link := by
  obtain ⟨joinedRq, joinedLink⟩ := joinNotice_congr (.zcMiss s.pumpCar.period s.comm.stepIndex) rq time car
  unfold missNoticed
  split
  · exact ⟨joinedRq, joinedLink link⟩
  · exact ⟨rq, link⟩

theorem zcMissNotice_eq {s u : State} (car : u.pumpCar = s.pumpCar) :
    zcMissNotice (decide (s.comm.zcMisses = 0)) s.comm.stepIndex u = missNoticed s u := by
  simp only [zcMissNotice, missNoticed, car, decide_eq_true_eq]

/-- The state in which a timeout has been counted (R121, R122). -/
def missCounted (s : State) : State := s.withComm { s.comm with zcMisses := s.comm.zcMisses + 1 }

theorem takeTimeout_of_below {s : State} (d : Tick) (below : s.comm.zcMisses + 1 < s.pump.profile.kzc) :
    takeTimeout d s =
      missNoticed s (commutate .forced (some (d - BitVec.ofNat 32 (commutationDelay s))) (missCounted s)) := by
  rw [← zcMissNotice_eq (by simp [missCounted])]
  exact if_pos below

theorem takeTimeout_of_kzc {s : State} (d : Tick) (kzc : s.pump.profile.kzc ≤ s.comm.zcMisses + 1) :
    takeTimeout d s = enterPumpSafe .stall (missNoticed s (missCounted s)) := by
  rw [← zcMissNotice_eq (s := s) (u := missCounted s) rfl]
  exact if_neg (not_lt.2 kzc)

/-- The notice of an entry to SAFE is all that joins there (R143). -/
theorem enterPumpSafe_rq (c : Cause) (s : State) :
    (enterPumpSafe c s).rq = (joinNotice (.safeEntry .pump c) s).rq :=
  (joinNotice_congr _ (by simp) (by simp) (by simp)).1

theorem floated_commanded (r : PhaseRecord) : (floated r).commanded = .float := by
  unfold floated
  split <;> simp [*]

/-- In SAFE the three pump phases are commanded FLOAT (R131). -/
theorem enterPumpSafe_floats (c : Cause) (s : State) (x : Phase) :
    ((enterPumpSafe c s).pumpGates.get x).commanded = .float := by
  simp [enterPumpSafe, stopPump_eq, pumpFloated, floated_commanded]

theorem exec_zcTimeout {s : State} {d : Tick} (closed : s.pump.state = .closed) (open_ : s.comm.stepZc = none)
    (at_ : s.comm.deadline = some d) (time : reached d s.time.stepTick = true) :
    exec .zcTimeout s = .next (takeTimeout d s) := by
  have due : timeoutDue s = some d := by simp [timeoutDue, closed, open_, at_, time]
  change execZcTimeout s = _
  simp only [execZcTimeout, due]

/-- A forced commutation is timed from the virtual ZC time, and the step that ends has no interval (R121, R125). -/
theorem forced_comm {s : State} (closed : s.pump.state = .closed) (open_ : s.comm.stepZc = none) (virtual : Tick) :
    (commutate .forced (some virtual) (missCounted s)).comm =
      { commutated (some virtual) (some (later s.time.stepTick (timeoutSpan s))) s with
        zcMisses := s.comm.zcMisses + 1 } := by
  have zc : closingZc (some virtual) (missCounted s) = some virtual := by simp [closingZc, missCounted, open_]
  rw [commutate_comm, zc, if_pos (show (missCounted s).pump.state = .closed from closed)]
  rfl

theorem forced_report {s : State} (open_ : s.comm.stepZc = none) :
    reportStep .forced s =
      if s.pump.report then
        joinRecord (.step ⟨s.pumpCar.period, s.comm.stepIndex, none, .forced, stepMean s, s.pump.currentCount⟩) s
      else s := by
  have interval : stepInterval s = none := by simp [stepInterval, open_]
  rw [reportStep, stepRecord, interval]

/-- The record of kind FORCED joins, and then the notice, as they would on the state before the timeout was counted. -/
theorem forced_records (virtual : Tick) (s : State) :
    (missNoticed s (commutate .forced (some virtual) (missCounted s))).rq = (missNoticed s (reportStep .forced s)).rq ∧
    (missNoticed s (commutate .forced (some virtual) (missCounted s))).link =
      (missNoticed s (reportStep .forced s)).link := by
  obtain ⟨rq, link⟩ := commutate_rq .forced (some virtual) (missCounted s)
  obtain ⟨joinedRq, joinedLink⟩ := reportStep_congr .forced (s := missCounted s) (t := s) rfl rfl rfl rfl
  exact missNoticed_congr s (rq.trans joinedRq) (link.trans joinedLink) (by simp [missCounted]) (by simp [missCounted])

/-- Settles O41: a forced commutation below Kzc, SAFE for STALL at it. -/
theorem timeoutForcesOrStalls : Obligations.TimeoutForcesOrStalls := by
  unfold Obligations.TimeoutForcesOrStalls
  intro s d closed open_ at_ time misses delay missed reported
  have forced : reportStep .forced s = reported := forced_report open_
  clear_value reported
  subst forced
  refine ⟨_, exec_zcTimeout closed open_ at_ time, by apply State.ext_parts <;> simp, ?_⟩
  rcases lt_or_ge misses s.pump.profile.kzc with below | kzc
  · have answer : takeTimeout d s =
        missNoticed s (commutate .forced (some (d - BitVec.ofNat 32 delay)) (missCounted s)) :=
      takeTimeout_of_below d below
    rw [answer]
    have comm := forced_comm closed open_ (d - BitVec.ofNat 32 delay)
    have pump := commutate_pump .forced (some (d - BitVec.ofNat 32 delay)) (missCounted s)
    obtain ⟨-, -, car, gates, noticedComm, noticedPump⟩ :=
      missNoticed_kept s (commutate .forced (some (d - BitVec.ofNat 32 delay)) (missCounted s))
    refine ⟨?_, ?_, fun _ => ⟨?_, ?_, fun stores => ?_, forced_records _ s⟩, fun kzc => absurd below (not_lt.2 kzc)⟩
    · rw [noticedComm, comm]
    · rw [noticedComm, comm]
      rfl
    · exact noticedComm.trans comm
    · exact noticedPump.trans pump
    · have counted : StoresInRange (missCounted s) := { stores with }
      exact (commutate_commanded _ _ counted).congr gates noticedComm car
  · rw [takeTimeout_of_kzc d kzc]
    have comm : (enterPumpSafe .stall (missNoticed s (missCounted s))).comm =
        { stoppedCommutator s.comm with zcMisses := misses } := by
      simp [enterPumpSafe_comm, missCounted, stoppedCommutator, misses]
    obtain ⟨slot, pump⟩ := enterPumpSafe_pump .stall (missNoticed s (missCounted s))
    obtain ⟨noticed, -⟩ := missNoticed_congr s (t := missCounted s) (u := s) rfl rfl rfl rfl
    have rq : (enterPumpSafe .stall (missNoticed s (missCounted s))).rq =
        (joinNotice (.safeEntry .pump .stall) (missed s)).rq := by
      rw [enterPumpSafe_rq]
      exact (joinNotice_congr _ noticed (by simp [missCounted]) (by simp [missCounted])).1
    exact ⟨by rw [comm], by rw [comm]; rfl, fun below => absurd below (not_lt.2 kzc),
      fun _ => ⟨rfl, by rw [pump]; rfl, by rw [pump], comm, rq⟩⟩

/-! ### The ramp (R135, R136) -/

section
variable {s : State} {p : RampPosition} (position : s.pump.rampPosition = some p)
include position

/-- The row times another step. -/
theorem advanceRamp_of_again (again : p.repeats + 1 < (s.pump.ramp[p.row]).repeats) :
    advanceRamp s =
      s.withPump
        { s.pump with
          rampPosition := some ⟨p.row, p.repeats + 1⟩
          rampTime := some (later s.time.stepTick (s.pump.ramp[p.row]).interval) } := by
  simp only [advanceRamp, position, if_pos again]

/-- The next row begins. -/
theorem advanceRamp_of_next (done : (s.pump.ramp[p.row]).repeats ≤ p.repeats + 1) {next : Fin 16}
    (succ : next.val = p.row.val + 1) (below : next.val < s.pump.rampLength) :
    advanceRamp s =
      s.withPump
        { s.pump with
          rampPosition := some ⟨next, 0⟩
          rampTime := some (later s.time.stepTick (s.pump.ramp[next]).interval) } := by
  have more : p.row.val + 1 < 16 ∧ p.row.val + 1 < s.pump.rampLength := by omega
  obtain rfl : next = ⟨p.row.val + 1, more.1⟩ := Fin.ext succ
  simp only [advanceRamp, position, if_neg (not_lt.2 done), dif_pos more]
  rfl

/-- The ramp has come to its end. -/
theorem advanceRamp_of_end (done : (s.pump.ramp[p.row]).repeats ≤ p.repeats + 1)
    (last : 16 ≤ p.row.val + 1 ∨ s.pump.rampLength ≤ p.row.val + 1) : advanceRamp s = enterPumpSafe .startFail s := by
  have none : ¬(p.row.val + 1 < 16 ∧ p.row.val + 1 < s.pump.rampLength) := by omega
  simp only [advanceRamp, position, if_neg (not_lt.2 done), dif_neg none]

end

/-- The stable count after a step of the ramp: 0 if no crossing was accepted in it (R136). -/
def rampStable (s : State) : Nat := if s.comm.stepZc.isSome then s.pump.stable else 0

/-- The commutation of the ramp, before the ramp position advances (R124, R136). -/
def rampStepped (s : State) : State :=
  (commutate .ramp none s).withPump { s.pump with currentSum := 0, currentCount := 0, stable := rampStable s }

theorem rampCommutation_eq (s : State) : rampCommutation s = advanceRamp (rampStepped s) := by
  have pump := commutate_pump .ramp none s
  have stepped : (if s.comm.stepZc.isSome then commutate .ramp none s
      else (commutate .ramp none s).withPump { (commutate .ramp none s).pump with stable := 0 }) = rampStepped s := by
    rw [rampStepped, rampStable]
    split
    · exact (State.withPump_self _).symm.trans (by rw [pump])
    · rw [pump]
  exact congrArg advanceRamp stepped

theorem rampStepped_comm {s : State} (ramp : s.pump.state = .ramp) :
    (rampStepped s).comm = commutated s.comm.stepZc none s := by
  rw [rampStepped, State.withPump_comm, commutate_comm, closingZc_none, if_neg (by simp [ramp])]

theorem exec_rampCommutation {s : State} {at_ : Tick} (ramp : s.pump.state = .ramp) (due : s.pump.rampTime = some at_)
    (time : reached at_ s.time.stepTick = true) :
    exec .rampCommutation s = .next (advanceRamp (rampStepped s)) := by
  have due : rampDue s = true := by simp [rampDue, ramp, due, reachedTime, time]
  exact next_congr ((if_pos due).trans (rampCommutation_eq s))

/-- Settles O42: the commutation of the ramp, and then the three ways in which the ramp goes on. -/
theorem rampCommutationWalksRamp : Obligations.RampCommutationWalksRamp := by
  unfold Obligations.RampCommutationWalksRamp
  intro s at_ p ramp due time position row stable reported
  have position' : (rampStepped s).pump.rampPosition = some p := position
  have comm := rampStepped_comm ramp
  obtain ⟨rq, link⟩ := commutate_rq .ramp none s
  have commanded : StoresInRange s → StepCommanded (rampStepped s) := fun stores =>
    (commutate_commanded .ramp none stores).congr rfl rfl rfl
  have stepTick : (rampStepped s).time.stepTick = s.time.stepTick := by simp [rampStepped]
  refine ⟨_, exec_rampCommutation ramp due time, by apply State.ext_parts <;> simp [rampStepped], fun again => ?_,
    fun next done succ below => ?_, fun done last => ?_⟩
  · rw [advanceRamp_of_again position' again, stepTick]
    exact ⟨comm, rq, link, fun stores => (commanded stores).congr rfl rfl rfl, rfl⟩
  · rw [advanceRamp_of_next position' done succ below, stepTick]
    exact ⟨comm, rq, link, fun stores => (commanded stores).congr rfl rfl rfl, rfl⟩
  · rw [advanceRamp_of_end position' done last]
    obtain ⟨slot, pump⟩ := enterPumpSafe_pump .startFail (rampStepped s)
    rw [pump, enterPumpSafe_comm, comm, enterPumpSafe_rq]
    refine ⟨rfl, rfl, rfl, rfl, rfl, enterPumpSafe_floats _ _, ?_⟩
    exact (joinNotice_congr (s := rampStepped s) (t := reportStep .ramp s) _ rq (by simp [rampStepped])
      (by simp [rampStepped])).1

end Sys2Proof.Machine
end

section
/-! PROOFS. The floating-phase codes (R114 to R120, R123, R136), and a pump START (R132). -/

namespace Sys2Proof.Machine

/-! ### A floating-phase code (R114, R115) -/

theorem onNewSide_iff (value : Int) (s : State) :
    onNewSide value s = true ↔
      (polarityInForce s = .rising ∧ ((s.sched.busReading / 2 : Nat) : Int) < value) ∨
        (polarityInForce s = .falling ∧ value < ((s.sched.busReading / 2 : Nat) : Int)) := by
  cases h : polarityInForce s <;> simp [onNewSide, h]

/-- CONVERSION_DONE for a floating-phase request (R57). -/
theorem exec_floatingCode {s : State} {c : Conversion} (code : Code) (first : Motor)
    (busy : s.sched.converter = some c) (ended : reached (c.start + 64) s.time.tick = true)
    (owner : c.request.owner = .pump) (window : c.request.window = 2) :
    exec (.conversionDone code first) s = .next (floatingCode c.request.period c.startStep
      (correctedValue c.request.measurand code (inputRow c.request.measurand s).offset) (idled s)) := by
  rw [exec_conversionDone code first busy ended, deliver_code, owner]
  simp only [deliverPump, codeOutcome, window]

section
variable {s : State} {period : Word} {startStep : Tick} {value : Int}

theorem floatingCode_of_not_examined (h : ¬examines period s = true) : floatingCode period startStep value s = s :=
  if_neg h

variable (examined : examines period s = true)
include examined

theorem floatingCode_of_oldSide (old : ¬onNewSide value s = true) :
    floatingCode period startStep value s = breakRun s := (if_pos examined).trans (if_neg old)

variable (new : onNewSide value s = true)
include new

theorem floatingCode_of_first (run : s.comm.zcRun = 0) :
    floatingCode period startStep value s =
      s.withComm { s.comm with zcRun := 1, firstSample := some startStep } := by
  simp [floatingCode, examineCode, examined, new, run]

theorem floatingCode_of_second (run : s.comm.zcRun = 1) {z : Tick} (sample : s.comm.firstSample = some z) :
    floatingCode period startStep value s = s.withComm { s.comm with zcRun := 2 } := by
  simp [floatingCode, examineCode, examined, new, run, sample]

theorem floatingCode_of_third (run : s.comm.zcRun = 2) {z : Tick} (sample : s.comm.firstSample = some z) :
    floatingCode period startStep value s = acceptCrossing z s := by
  have moved : floatingCode period startStep value s =
      acceptCrossing z (s.withComm { s.comm with zcRun := 3, firstSample := some z }) := by
    simp [floatingCode, examineCode, examined, new, run, sample]
  rw [moved, acceptCrossing_withRun]

end

/-! ### The accepted crossing (R116 to R120, R123, R136) -/

theorem acceptCrossing_of_closed {s : State} (closed : s.pump.state = .closed) (z : Tick) :
    acceptCrossing z s = timeCommutation z (s.withComm (acceptedComm z s.comm)) := by
  have ramp : s.pump.state ≠ .ramp := by simp [closed]
  rw [acceptCrossing_eq]
  simp only [if_neg ramp]
  exact if_pos closed

/-- In RAMP the crossing moves the stable count, and times the commutation if the pump is then in CLOSED. -/
theorem acceptCrossing_of_ramp {s u : State} (ramp : s.pump.state = .ramp) {z : Tick}
    (counted : countStable (intervalFrom s.comm.lastZc z) (s.withComm (acceptedComm z s.comm)) = u) :
    acceptCrossing z s = if u.pump.state = .closed then timeCommutation z u else u := by
  rw [acceptCrossing_eq]
  simp only [if_pos ramp, counted]

section
variable {s : State} {p : RampPosition} (position : s.pump.rampPosition = some p) {interval : Option Nat}
include position

theorem countStable_of_far (far : ¬nearRow (s.pump.ramp[p.row]) interval = true) :
    countStable interval s = s.withPump { s.pump with stable := 0 } := by
  simp only [countStable, position, if_neg far]

variable (near : nearRow (s.pump.ramp[p.row]) interval = true)
include near

theorem countStable_of_few (few : s.pump.stable + 1 < s.pump.profile.nstable) :
    countStable interval s = s.withPump { s.pump with stable := s.pump.stable + 1 } := by
  simp only [countStable, position, if_pos near]
  exact if_neg (not_le.2 few)

theorem countStable_of_stable (stable : s.pump.profile.nstable ≤ s.pump.stable + 1) :
    countStable interval s =
      enterClosed (s.pump.ramp[p.row]).duty (s.withPump { s.pump with stable := s.pump.stable + 1 }) := by
  simp only [countStable, position, if_pos near]
  exact if_pos stable

end

section
variable {s : State} (ramp : s.pump.state = .ramp) {p : RampPosition} (position : s.pump.rampPosition = some p) {z : Tick}
include ramp position

theorem acceptCrossing_of_far (far : ¬nearRow (s.pump.ramp[p.row]) (intervalFrom s.comm.lastZc z) = true) :
    acceptCrossing z s = (s.withComm (acceptedComm z s.comm)).withPump { s.pump with stable := 0 } :=
  (acceptCrossing_of_ramp ramp (countStable_of_far (s := s.withComm (acceptedComm z s.comm)) position far)).trans
    (if_neg (by simp [ramp]))

variable (near : nearRow (s.pump.ramp[p.row]) (intervalFrom s.comm.lastZc z) = true)
include near

theorem acceptCrossing_of_few (few : s.pump.stable + 1 < s.pump.profile.nstable) :
    acceptCrossing z s =
      (s.withComm (acceptedComm z s.comm)).withPump { s.pump with stable := s.pump.stable + 1 } :=
  (acceptCrossing_of_ramp ramp (countStable_of_few (s := s.withComm (acceptedComm z s.comm)) position near few)).trans
    (if_neg (by simp [ramp]))

theorem acceptCrossing_of_stable (stable : s.pump.profile.nstable ≤ s.pump.stable + 1) :
    acceptCrossing z s =
      timeCommutation z (enterClosed (s.pump.ramp[p.row]).duty
        ((s.withComm (acceptedComm z s.comm)).withPump { s.pump with stable := s.pump.stable + 1 })) :=
  (acceptCrossing_of_ramp ramp
    (countStable_of_stable (s := s.withComm (acceptedComm z s.comm)) position near stable)).trans
    (if_pos (by simp [enterClosed, pumpStateNotice]))

end

theorem nearRow_iff (row : RampRow) (interval : Option Nat) :
    nearRow row interval = true ↔
      ∃ i, interval = some i ∧ i ≤ row.interval + row.interval / 4 ∧ row.interval ≤ i + row.interval / 4 := by
  cases interval <;> simp [nearRow]

/-- A notice that joins and a change at the commutator may be taken in either order. -/
theorem joinNotice_withComm (n : Notice) (s : State) (c : Commutator) :
    (joinNotice n s).withComm c = joinNotice n (s.withComm c) := by
  obtain ⟨rq, link⟩ := joinNotice_congr n (s := s) (t := s.withComm c) rfl rfl rfl
  apply State.ext_parts
  case rq => exact rq
  case link => exact link rfl
  all_goals simp

/-- The crossing's commutation waits for its time, or is the one that DUE_COMMUTATION makes (R120, R123). -/
theorem timeCommutation_answers (z : Tick) {s : State} (closed : s.pump.state = .closed) :
    (reached (later z (commutationDelay s)) s.time.stepTick = false →
      timeCommutation z s = s.withComm (timedComm z s)) ∧
    (reached (later z (commutationDelay s)) s.time.stepTick = true →
      exec .dueCommutation (s.withComm (timedComm z s)) = .next (timeCommutation z s)) := by
  rw [timeCommutation_eq]
  refine ⟨fun waits => by rw [waits]; rfl, fun due => ?_⟩
  rw [if_pos due]
  exact exec_dueCommutation closed rfl due

/-- Pump State Control in CLOSED, at this duty (R135, R136). -/
def closedPump (duty : Word) (p : PumpControl) : PumpControl :=
  { p with state := .closed, rampPosition := none, rampTime := none, dutyInForce := duty }

/-- The crossing that takes the pump to CLOSED is timed there as it would be without the notice (R119, R120, R136). -/
theorem enterClosed_answers (duty : Word) (z : Tick) (s : State) :
    let u := joinNotice (.pumpState .closed) ((s.withPump (closedPump duty s.pump)).withComm (timedComm z s))
    (reached (later z (commutationDelay s)) s.time.stepTick = false →
      timeCommutation z (enterClosed duty s) = u) ∧
    (reached (later z (commutationDelay s)) s.time.stepTick = true →
      exec .dueCommutation u = .next (timeCommutation z (enterClosed duty s))) := by
  have delay : commutationDelay (enterClosed duty s) = commutationDelay s := by
    simp [commutationDelay, ringSum, enterClosed, pumpStateNotice]
  have timed : (enterClosed duty s).withComm (timedComm z (enterClosed duty s)) =
      joinNotice (.pumpState .closed) ((s.withPump (closedPump duty s.pump)).withComm (timedComm z s)) := by
    rw [← joinNotice_withComm, show timedComm z (enterClosed duty s) = timedComm z s by simp [timedComm, delay]]
    rfl
  have time : (enterClosed duty s).time = s.time := by simp
  have answers := timeCommutation_answers z (s := enterClosed duty s) (by simp [enterClosed, pumpStateNotice])
  rw [delay, timed, time] at answers
  exact answers

/-- Settles O43: the detector's cases, and then the accepted crossing's by the pump's state. -/
theorem thirdSampleAcceptsCrossing : Obligations.ThirdSampleAcceptsCrossing := by
  unfold Obligations.ThirdSampleAcceptsCrossing
  intro code first s c busy ended owner window idle examined value threshold newSide
  have answer := exec_floatingCode code first busy ended owner window
  have examines : examines c.request.period (idled s) = true ↔ examined := examines_iff _ (idled s)
  have new : onNewSide value (idled s) = true ↔ newSide := onNewSide_iff value (idled s)
  refine ⟨fun h => ?_, fun h old => ?_, fun h side run => ?_, fun z h side run sample => ?_,
    fun z h side run sample => ?_⟩
  · rw [answer, floatingCode_of_not_examined (mt examines.1 h)]
    rfl
  · rw [answer, floatingCode_of_oldSide (examines.2 h) (mt new.1 old)]
    rfl
  · rw [answer, floatingCode_of_first (examines.2 h) (new.2 side) run]
    rfl
  · rw [answer, floatingCode_of_second (examines.2 h) (new.2 side) run sample]
    rfl
  · rw [answer, floatingCode_of_third (examines.2 h) (new.2 side) run sample]
    intro interval ring accepted due timed answers
    refine ⟨fun closed => ?_, fun p ramp position => ?_⟩
    · obtain ⟨waits, made⟩ := timeCommutation_answers z (s := (idled s).withComm (acceptedComm z s.comm)) closed
      have crossing := acceptCrossing_of_closed (s := idled s) closed z
      exact ⟨fun later => next_congr (crossing.trans (waits later)),
        fun reached => (next_congr crossing).trans (made reached).symm⟩
    · intro row near
      have nearRow : nearRow row interval = true ↔ near := nearRow_iff row interval
      refine ⟨fun far => ?_, fun h few => ?_, fun h stable => ?_⟩
      · exact next_congr (acceptCrossing_of_far (s := idled s) ramp position (mt nearRow.1 far))
      · exact next_congr (acceptCrossing_of_few (s := idled s) ramp position (nearRow.2 h) few)
      · have crossing := acceptCrossing_of_stable (s := idled s) ramp position (nearRow.2 h) stable
        obtain ⟨waits, made⟩ := enterClosed_answers row.duty z
          (((idled s).withComm (acceptedComm z s.comm)).withPump { s.pump with stable := s.pump.stable + 1 })
        exact ⟨fun later => next_congr (crossing.trans (waits later)),
          fun reached => (next_congr crossing).trans (made reached).symm⟩

/-! ### A pump START (R132) -/

theorem pumpAssigned_eq_false_iff (s : State) :
    pumpAssigned s = false ↔
      (inputRow .pumpShunt s).input = none ∨ (inputRow .bus s).input = none ∨ (inputRow .pumpVa s).input = none ∨
        (inputRow .pumpVb s).input = none ∨ (inputRow .pumpVc s).input = none := by
  simp only [pumpAssigned, assigned, Bool.and_eq_false_iff, Option.isSome_eq_false_iff, Option.isNone_iff_eq_none,
    or_assoc]

section
variable {s : State}

theorem startPumpBody_of_on (on : s.pump.state ≠ .off) : startPumpBody s = (s, .badState) := if_pos on

variable (off : s.pump.state = .off)
include off

theorem startPumpBody_of_unassigned (missing : pumpAssigned s = false) : startPumpBody s = (s, .notAssigned) := by
  simp [startPumpBody, off, missing]

variable (inputs : ¬pumpAssigned s = false)
include inputs

theorem startPumpBody_of_table (fails : sequencePasses s.comm.table = false) :
    startPumpBody s = (s, .tableInvalid) := by
  simp_all [startPumpBody]

variable (walks : sequencePasses s.comm.table = true)
include walks

theorem startPumpBody_of_noPermit (none : s.input.permit = false ∧ s.pump.dry = false) :
    startPumpBody s = (s, .noPermit) := by
  simp_all [startPumpBody]

variable (permit : ¬(s.input.permit = false ∧ s.pump.dry = false))
include permit

theorem startPumpBody_of_fault (fault : s.input.faultP = true) : startPumpBody s = (s, .badState) := by
  unfold startPumpBody
  rw [if_neg (not_not.2 off), if_neg inputs, if_neg (by simp [walks]), if_neg permit, if_pos fault]

theorem startPumpBody_of_clear (fault : s.input.faultP = false) : startPumpBody s = (acceptStartPump s, .ok) := by
  unfold startPumpBody
  rw [if_neg (not_not.2 off), if_neg inputs, if_neg (by simp [walks]), if_neg permit, if_neg (by simp [fault])]

end

theorem acceptStartPump_of_calibrate {s : State} (source : (inputRow .pumpShunt s).source = .calibrate) :
    acceptStartPump s = enterPumpOffset (startPumpCounters s) := if_pos source

theorem acceptStartPump_of_fixed {s : State} (source : (inputRow .pumpShunt s).source = .fixed) :
    acceptStartPump s = enterAlign (startPumpCounters s) := if_neg fun calibrate => by cases source.symm.trans calibrate

/-- The pump in OFFSET after a START, with its phases floated (R131, R132). -/
def pumpOffsetStarted (s : State) : State :=
  { s with
    comm := { s.comm with zcMisses := 0, ring := [] }
    pump := { s.pump with state := .offset, overRun := 0, stable := 0, calib := ⟨0, 0, 0, none⟩ }
    pumpGates := s.pumpGates.map floated }

theorem enterPumpOffset_eq (s : State) :
    enterPumpOffset (startPumpCounters s) = joinNotice (.pumpState .offset) (pumpOffsetStarted s) := by
  simp only [enterPumpOffset, pumpStateNotice, driveAll, command_float_eq]
  rfl

theorem enterAlign_commanded {s : State} (h : StoresInRange s) : StepCommanded (enterAlign s) := by
  have commanded := commandStep_commanded
    (s := (s.withComm (alignedComm s.pump s.comm)).withPump (alignedPump s.time.tick s.pump))
    (h.commutation s.pump.profile.startIndex)
  exact commanded.congr (by simp [enterAlign_eq]) (by simp [enterAlign_eq]) (by simp)

theorem enterAlign_notice (s : State) :
    (enterAlign s).rq.records.getLast? = some (.notice (.pumpState .align) (stampPeriod s) (stampOffset s)) := by
  rw [enterAlign_eq, joinNotice_last]
  obtain ⟨period, offset⟩ := stamp_congr (t := s)
    (s := commandStep ((s.withComm (alignedComm s.pump s.comm)).withPump (alignedPump s.time.tick s.pump)))
    (by simp) (by simp)
  rw [period, offset]

/-- The stores are held by four parts. -/
theorem StoresInRange.congr {s t : State} (h : StoresInRange s) (setup : t.setup = s.setup) (pump : t.pump = s.pump)
    (comm : t.comm = s.comm) : StoresInRange t := by
  have parts : t = { t with setup := s.setup, pump := s.pump, comm := s.comm } := by rw [← setup, ← pump, ← comm]
  rw [parts]
  exact { h with }

theorem startPumpCounters_inRange {s : State} (h : StoresInRange s) : StoresInRange (startPumpCounters s) := { h with }

/-- A START's entry to ALIGN, and the result it gives its frame, may be taken in either order. -/
theorem setResult_enterAlign (r : Result) (s : State) :
    setResult r (enterAlign (startPumpCounters s)) = enterAlign (startPumpCounters (setResult r s)) := by
  rw [enterAlign_eq, enterAlign_eq, setResult_joinNotice]
  simp only [setResult_eq]
  rfl

/-- A START touches the pump's parts and, with its notice, the Record Queue and the Link Port alone (R112, R134). -/
theorem enterAlign_startPumpCounters_frame (s : State) :
    ∃ gates comm pump link rq,
      enterAlign (startPumpCounters s) =
        { s with pumpGates := gates, comm := comm, pump := pump, link := link, rq := rq } := by
  refine ⟨_, _, _, (enterAlign (startPumpCounters s)).link, (enterAlign (startPumpCounters s)).rq,
    State.ext_parts ?_ ?_ ?_ ?_ ?_ rfl ?_ ?_ ?_ ?_ ?_ rfl rfl rfl rfl ?_ ?_⟩ <;> simp [enterAlign_eq] <;> rfl

/-- Settles O47: START's conditions in R132's order, on the state that the completion leaves. -/
theorem startPumpByFirstCondition : Obligations.StartPumpByFirstCondition := by
  unfold Obligations.StartPumpByFirstCondition
  intro s fr receiving ready u noPermit missing
  have refused : ∀ {r}, startPumpBody (endBreakRun (sentWhole fr s)) = (endBreakRun (sentWhole fr s), r) →
      exec .startPump s = .next (answered fr r s) :=
    fun h => next_congr (decideFrame_of_refused receiving ready h)
  have unassigned : pumpAssigned (endBreakRun (sentWhole fr s)) = false ↔ missing := pumpAssigned_eq_false_iff _
  refine ⟨fun on => refused (startPumpBody_of_on on),
    fun off none => refused (startPumpBody_of_unassigned off (unassigned.2 none)),
    fun off inputs fails => refused (startPumpBody_of_table off (mt unassigned.1 inputs) fails),
    fun off inputs walks none => refused (startPumpBody_of_noPermit off (mt unassigned.1 inputs) walks none),
    fun off inputs walks permit fault =>
      refused (startPumpBody_of_fault off (mt unassigned.1 inputs) walks permit fault),
    fun off inputs walks permit fault => ?_⟩
  have started := startPumpBody_of_clear (s := endBreakRun (sentWhole fr s)) off (mt unassigned.1 inputs) walks permit fault
  have taken := decideFrame_of_taken receiving ready started
  refine ⟨fun source => ?_, fun source => ?_⟩
  · rw [acceptStartPump_of_calibrate (s := endBreakRun (sentWhole fr s)) source, enterPumpOffset_eq,
      setResult_joinNotice] at taken
    have answered : setResult .ok (pumpOffsetStarted (endBreakRun (sentWhole fr s))) = pumpOffsetStarted u := by
      rw [setResult_eq, endBreakRun_sentWhole]
      rfl
    exact next_congr (taken.trans (congrArg _ answered))
  · rw [acceptStartPump_of_fixed (s := endBreakRun (sentWhole fr s)) source, setResult_enterAlign,
      setResult_sentWhole] at taken
    obtain ⟨comm, pump⟩ := enterAlign_parts (startPumpCounters u)
    refine ⟨_, next_congr taken, comm, pump, fun stores => ?_, enterAlign_notice (startPumpCounters u), ?_⟩
    · exact enterAlign_commanded (startPumpCounters_inRange (stores.congr (t := u) rfl rfl rfl))
    · obtain ⟨_, _, _, _, _, same⟩ := enterAlign_startPumpCounters_frame u
      rw [same]

end Sys2Proof.Machine
end

section
/-! PROOFS. The current samples of a running pump (R138, R139). -/

namespace Sys2Proof.Machine

/-! ### Which samples count, and which are over -/

theorem sampleCounts_iff (start : Tick) (s : State) :
    sampleCounts start s = true ↔ ∀ entry, s.pump.alignEntry = some entry → reached entry start = true := by
  cases h : s.pump.alignEntry <;> simp [sampleCounts, h]

theorem sampleOver_iff (raw : Code) (value : Int) (trip : Code) :
    sampleOver raw value trip = true ↔ raw = 4095 ∨ (trip.toNat ≠ 0 ∧ (trip.toNat : Int) < value) := by
  have zero : trip.toNat = 0 ↔ trip = 0#12 := BitVec.toNat_inj (y := 0#12)
  simp [sampleOver, zero]

/-! ### The effect of a sample -/

/-- The pump's parts with this value joined to the step's sum and count (R138). -/
def summedPump (value : Int) (p : PumpControl) : PumpControl :=
  if p.currentCount < 65535 then
    { p with currentSum := p.currentSum + value, currentCount := p.currentCount + 1 }
  else p

theorem addSample_eq (value : Int) (s : State) : addSample value s = s.withPump (summedPump value s.pump) := by
  unfold addSample summedPump
  split
  · rfl
  · exact (State.withPump_self s).symm

@[simp] theorem summedPump_overRun (value : Int) (p : PumpControl) : (summedPump value p).overRun = p.overRun := by
  unfold summedPump
  split <;> rfl

section
variable {raw : Code} {value : Int} {s : State}

/-- A sample that is not over ends the run (R139). -/
theorem currentSample_of_not_over (below : ¬sampleOver raw value (inputRow .pumpShunt s).trip = true) :
    currentSample raw value s = s.withPump { summedPump value s.pump with overRun := 0 } := by
  simp only [currentSample, addSample_eq]
  exact if_neg below

variable (high : sampleOver raw value (inputRow .pumpShunt s).trip = true)
include high

/-- A sample that is over counts in the run, and the run's third one trips (R139). -/
theorem currentSample_of_over :
    let u := s.withPump { summedPump value s.pump with overRun := runUp 3 s.pump.overRun }
    currentSample raw value s = if runUp 3 s.pump.overRun = 3 then enterPumpSafe .overcurrent u else u := by
  simp only [currentSample, addSample_eq]
  refine (if_pos high).trans ?_
  simp

theorem currentSample_of_few (few : s.pump.overRun < 2) :
    currentSample raw value s = s.withPump { summedPump value s.pump with overRun := s.pump.overRun + 1 } := by
  have run : runUp 3 s.pump.overRun = s.pump.overRun + 1 := Nat.min_eq_left (by omega)
  rw [currentSample_of_over high, run, if_neg (by omega)]

theorem currentSample_of_third (third : 2 ≤ s.pump.overRun) :
    currentSample raw value s =
      enterPumpSafe .overcurrent (s.withPump { summedPump value s.pump with overRun := 3 }) := by
  have run : runUp 3 s.pump.overRun = 3 := Nat.min_eq_right (by omega)
  rw [currentSample_of_over high, run, if_pos rfl]

end

/-! ### The delivery of a sample -/

/-- A sample of a running pump that counts is a current sample (R57, R138). -/
theorem pumpShuntCode_of_counts {period : Word} {start : Tick} {raw : Code} {value : Int} {s : State}
    (running : s.pump.state.running = true) (counts : sampleCounts start s = true) :
    pumpShuntCode period start raw value s = currentSample raw value s := by
  have notOffset : s.pump.state ≠ .offset := fun offset => by simp [offset, PumpState.running] at running
  rw [pumpShuntCode, if_neg notOffset, if_pos (by rw [running, counts, Bool.and_self])]

/-- CONVERSION_DONE for a pump shunt request (R57). -/
theorem exec_pumpShuntCode {s : State} {c : Conversion} (code : Code) (first : Motor)
    (busy : s.sched.converter = some c) (ended : reached (c.start + 64) s.time.tick = true)
    (owner : c.request.owner = .pump) (window : c.request.window = 1) :
    exec (.conversionDone code first) s = .next (pumpShuntCode c.request.period c.start code
      (correctedValue c.request.measurand code (inputRow c.request.measurand s).offset) (idled s)) := by
  rw [exec_conversionDone code first busy ended, deliver_code, owner]
  simp only [deliverPump, codeOutcome, window]

/-- An entry to SAFE commands every phase FLOAT (R11, R131). -/
theorem enterPumpSafe_pumpGates (c : Cause) (s : State) :
    (enterPumpSafe c s).pumpGates = s.pumpGates.map floated := by
  simp [enterPumpSafe, stopPump_eq, pumpFloated]

/-- Settles O44: the sample is over or not, and if it is, the third of its run or not. -/
theorem currentSampleCountsAndTrips : Obligations.CurrentSampleCountsAndTrips := by
  unfold Obligations.CurrentSampleCountsAndTrips
  intro code first s c busy ended owner window state counts value trip tripping summed idle
  have running : s.pump.state.running = true := by
    rcases state with state | state | state <;> rw [state] <;> rfl
  have overIff : sampleOver code value (inputRow .pumpShunt (idled s)).trip = true ↔ tripping := sampleOver_iff _ _ _
  have taken : exec (.conversionDone code first) s = .next (currentSample code value (idled s)) :=
    (exec_pumpShuntCode code first busy ended owner window).trans
      (next_congr (pumpShuntCode_of_counts (s := idled s) running ((sampleCounts_iff _ _).2 counts)))
  refine ⟨fun below => ?_, fun trips few => ?_, fun trips third => ?_⟩
  · exact taken.trans (next_congr (currentSample_of_not_over (mt overIff.1 below)))
  · exact taken.trans (next_congr (currentSample_of_few (s := idled s) (overIff.2 trips) few))
  · rw [currentSample_of_third (s := idled s) (overIff.2 trips) third] at taken
    obtain ⟨slot, pump⟩ := enterPumpSafe_pump .overcurrent
      ((idled s).withPump { summedPump value (idled s).pump with overRun := 3 })
    refine ⟨_, taken, ?_⟩
    rw [enterPumpSafe_comm, enterPumpSafe_pumpGates, pump]
    exact ⟨rfl, rfl, rfl, rfl, rfl, rfl, rfl⟩

end Sys2Proof.Machine
end

section
/-! PROOFS. What the link carries: a field of a frame reads back what was written there (section 10.1), the decoder
undoes the encoder (R147, R151, R167), and the check finds any single inverted bit (R147). -/

namespace Sys2Proof

/-! ### The header word (R151, section 10.1) -/

@[simp] theorem bitsAt_headerWord_kind (kind : BitVec 4) (motor : Motor) (rest : BitVec 11) :
    bitsAt (headerWord kind motor rest) 12 4 = kind := by
  simp only [bitsAt, headerWord]
  grind [BitVec.extractLsb'_append_eq_of_le, BitVec.extractLsb'_append_eq_right]

@[simp] theorem motorSelect_headerWord (kind : BitVec 4) (motor : Motor) (rest : BitVec 11) :
    motorSelect (headerWord kind motor rest) = motor := by
  unfold motorSelect headerWord
  cases motor <;> grind

/-- The kind's own bits stand at 10..0. -/
theorem bitsAt_headerWord_rest (kind : BitVec 4) (motor : Motor) (rest : BitVec 11) {lo len : Nat}
    (h : lo + len ≤ 11) : bitsAt (headerWord kind motor rest) lo len = rest.extractLsb' lo len :=
  BitVec.extractLsb'_append_eq_of_add_le h

@[simp] theorem pumpHeader_direction (kind : BitVec 4) (motor : Motor) (direction : BitVec 2) :
    bitsAt (headerWord kind motor (0#9 ++ direction)) 0 2 = direction :=
  (bitsAt_headerWord_rest _ _ _ (by decide)).trans BitVec.extractLsb'_append_eq_right

@[simp] theorem controlHeader_code (kind : BitVec 4) (motor : Motor) (code : BitVec 8) :
    bitsAt (headerWord kind motor (0#3 ++ code)) 0 8 = code :=
  (bitsAt_headerWord_rest _ _ _ (by decide)).trans BitVec.extractLsb'_append_eq_right

@[simp] theorem tableHeader_fields (kind : BitVec 4) (motor : Motor) (id row : BitVec 4) :
    bitsAt (headerWord kind motor (0#3 ++ id ++ row)) 4 4 = id ∧
    bitsAt (headerWord kind motor (0#3 ++ id ++ row)) 0 4 = row := by
  rw [bitsAt_headerWord_rest _ _ _ (by decide), bitsAt_headerWord_rest _ _ _ (by decide)]
  constructor <;> grind [BitVec.extractLsb'_append_eq_of_le, BitVec.extractLsb'_append_eq_right]

@[simp] theorem queryHeader_fields (kind : BitVec 4) (motor : Motor) (clear : Bool) (page : BitVec 4) :
    (headerWord kind motor (0#6 ++ BitVec.ofBool clear ++ page)).getLsbD 4 = clear ∧
    bitsAt (headerWord kind motor (0#6 ++ BitVec.ofBool clear ++ page)) 0 4 = page := by
  constructor
  · unfold headerWord
    grind
  · exact (bitsAt_headerWord_rest _ _ _ (by decide)).trans BitVec.extractLsb'_append_eq_right

/-! ### The other words (section 10.1) -/

section
variable (x y : BitVec 8) (k l m : BitVec 4) (d : BitVec 5) (i : BitVec 3) (p q r t : BitVec 2) (flag : Bool)

theorem bytesWord_fields : bitsAt (x ++ y :) 8 8 = x ∧ bitsAt (x ++ y :) 0 8 = y := by
  unfold bitsAt
  exact ⟨BitVec.extractLsb'_append_eq_left, BitVec.extractLsb'_append_eq_right⟩

theorem limitsWord_fields :
    bitsAt (k ++ d ++ 0#6 ++ BitVec.ofBool flag :) 12 4 = k ∧ bitsAt (k ++ d ++ 0#6 ++ BitVec.ofBool flag :) 7 5 = d ∧
    BitVec.getLsbD (k ++ d ++ 0#6 ++ BitVec.ofBool flag :) 0 = flag := by
  unfold bitsAt
  refine ⟨?_, ?_, ?_⟩ <;> grind [BitVec.extractLsb'_append_eq_of_le, BitVec.extractLsb'_append_eq_right]

theorem inputWord_fields : bitsAt (0#6 ++ p ++ 0#4 ++ k :) 8 2 = p ∧ bitsAt (0#6 ++ p ++ 0#4 ++ k :) 0 4 = k := by
  unfold bitsAt
  constructor <;> grind [BitVec.extractLsb'_append_eq_of_le, BitVec.extractLsb'_append_eq_right]

theorem commutationWord_fields :
    bitsAt (0#2 ++ p ++ 0#2 ++ q ++ 0#2 ++ r ++ 0#2 ++ t :) 12 2 = p ∧
    bitsAt (0#2 ++ p ++ 0#2 ++ q ++ 0#2 ++ r ++ 0#2 ++ t :) 8 2 = q ∧
    bitsAt (0#2 ++ p ++ 0#2 ++ q ++ 0#2 ++ r ++ 0#2 ++ t :) 4 2 = r ∧
    bitsAt (0#2 ++ p ++ 0#2 ++ q ++ 0#2 ++ r ++ 0#2 ++ t :) 0 2 = t := by
  unfold bitsAt
  refine ⟨?_, ?_, ?_, ?_⟩ <;> grind [BitVec.extractLsb'_append_eq_of_le, BitVec.extractLsb'_append_eq_right]

theorem profileWord_fields :
    bitsAt (k ++ l ++ m ++ 0#1 ++ i :) 12 4 = k ∧ bitsAt (k ++ l ++ m ++ 0#1 ++ i :) 8 4 = l ∧
    bitsAt (k ++ l ++ m ++ 0#1 ++ i :) 4 4 = m ∧ bitsAt (k ++ l ++ m ++ 0#1 ++ i :) 0 3 = i := by
  unfold bitsAt
  refine ⟨?_, ?_, ?_, ?_⟩ <;> grind [BitVec.extractLsb'_append_eq_of_le, BitVec.extractLsb'_append_eq_right]

theorem lengthWord_field : bitsAt (0#11 ++ d :) 0 5 = d := BitVec.extractLsb'_append_eq_right

theorem rowWord_fields : bitsAt (0#8 ++ k ++ l :) 4 4 = k ∧ bitsAt (0#8 ++ k ++ l :) 0 4 = l := by
  unfold bitsAt
  constructor <;> grind [BitVec.extractLsb'_append_eq_of_le, BitVec.extractLsb'_append_eq_right]

/-- An interval is split over the low byte of one word and the next word. -/
theorem interval_rejoined (interval : BitVec 24) :
    (interval.extractLsb' 16 8 ++ interval.extractLsb' 0 16 :) = interval := by
  rw [BitVec.extractLsb'_append_extractLsb'_eq_extractLsb' (by decide)]
  simp

end

/-! ### A sealed frame (R147, R151) -/

@[simp] theorem sealFrame_words (w0 w1 w2 w3 w4 w5 w6 : Word) :
    (sealFrame w0 w1 w2 w3 w4 w5 w6).w0 = w0 ∧ (sealFrame w0 w1 w2 w3 w4 w5 w6).w1 = w1 ∧
    (sealFrame w0 w1 w2 w3 w4 w5 w6).w2 = w2 ∧ (sealFrame w0 w1 w2 w3 w4 w5 w6).w3 = w3 ∧
    (sealFrame w0 w1 w2 w3 w4 w5 w6).w4 = w4 ∧ (sealFrame w0 w1 w2 w3 w4 w5 w6).w5 = w5 ∧
    (sealFrame w0 w1 w2 w3 w4 w5 w6).w6 = w6 := ⟨rfl, rfl, rfl, rfl, rfl, rfl, rfl⟩

@[simp] theorem sealFrame_checks (w0 w1 w2 w3 w4 w5 w6 : Word) : (sealFrame w0 w1 w2 w3 w4 w5 w6).checks = true :=
  beq_self_eq_true _

/-- The check over seven words of 0 is not 0, so a frame with its check is no break frame (R149). -/
@[simp] theorem sealFrame_isBreak (w0 w1 w2 w3 w4 w5 w6 : Word) :
    (sealFrame w0 w1 w2 w3 w4 w5 w6).isBreak = false := by
  have zeros : crcOf 0 0 0 0 0 0 0 ≠ 0 := by decide +kernel
  simp only [Frame.isBreak, sealFrame, beq_eq_false_iff_ne, ne_eq, Frame.mk.injEq]
  rintro ⟨rfl, rfl, rfl, rfl, rfl, rfl, rfl, check⟩
  exact zeros check

@[simp] theorem tableFrame_fields (id row : BitVec 4) (w1 w2 w3 w4 : Word) :
    bitsAt (tableFrame id row w1 w2 w3 w4).w0 4 4 = id ∧ bitsAt (tableFrame id row w1 w2 w3 w4).w0 0 4 = row ∧
    (tableFrame id row w1 w2 w3 w4).w1 = w1 ∧ (tableFrame id row w1 w2 w3 w4).w2 = w2 ∧
    (tableFrame id row w1 w2 w3 w4).w3 = w3 ∧ (tableFrame id row w1 w2 w3 w4).w4 = w4 := by
  simp [tableFrame]

@[simp] theorem queryFrame_fields (clear : Bool) (page : BitVec 4) (w1 : Word) :
    (queryFrame clear page w1).w0.getLsbD 4 = clear ∧ bitsAt (queryFrame clear page w1).w0 0 4 = page ∧
    (queryFrame clear page w1).w1 = w1 := by
  simp only [queryFrame, sealFrame_words, queryHeader_fields, and_self]

section
variable {permit : Bool} {first motor : Motor} {id row page : BitVec 4} {clear : Bool} {w1 w2 w3 w4 w5 w6 : Word}

theorem decodeFrame_controlFrame {code : BitVec 8} :
    decodeFrame permit first (controlFrame motor code) = decodeControl (headerWord 4 motor (0#3 ++ code)) := by
  simp [decodeFrame, controlFrame]

theorem decodeFrame_tableFrame :
    decodeFrame permit first (tableFrame id row w1 w2 w3 w4) = decodeTable (tableFrame id row w1 w2 w3 w4) := by
  simp [decodeFrame, tableFrame]

theorem decodeFrame_queryFrame :
    decodeFrame permit first (queryFrame clear page w1) = decodeQuery (queryFrame clear page w1) := by
  simp [decodeFrame, queryFrame]

/-- A kind that names nothing is none of the kinds 0..7 (R151). -/
theorem decodeFrame_unknownKind {kind : BitVec 4} {rest : BitVec 11} (unknown : kindKnown kind = false) :
    decodeFrame permit first (sealFrame (headerWord kind motor rest) w1 w2 w3 w4 w5 w6) = .unknownKind kind := by
  have above : 7 < kind.toNat := by simpa [kindKnown] using unknown
  simp only [decodeFrame, sealFrame_checks, sealFrame_isBreak, sealFrame_words, bitsAt_headerWord_kind,
    Bool.false_eq_true, if_false, Bool.not_true]
  split
  case h_9 => rfl
  all_goals omega

theorem decodeControl_unknown {code : BitVec 8} (unknown : controlCodeKnown code = false) :
    decodeControl (headerWord 4 motor (0#3 ++ code)) = .controlUnknownCode code := by
  have outside : 1 ≤ code.toNat → 10 < code.toNat := by simpa [controlCodeKnown] using unknown
  simp only [decodeControl, controlHeader_code]
  split
  case h_15 => rfl
  all_goals omega

theorem decodeTable_unknown (unknown : tableIdKnown id = false) :
    decodeTable (tableFrame id row w1 w2 w3 w4) = .tableUnknownId id := by
  have outside : 1 ≤ id.toNat → 5 < id.toNat := by simpa [tableIdKnown] using unknown
  simp only [decodeTable, tableFrame_fields]
  split
  case h_6 => rfl
  all_goals omega

theorem decodeQuery_unknown (unknown : pageKnown page = false) :
    decodeQuery (queryFrame clear page w1) = .queryUnknownPage page := by
  have above : 7 < page.toNat := by simpa [pageKnown] using unknown
  simp only [decodeQuery, queryFrame_fields]
  split
  case h_9 => rfl
  all_goals omega

end

/-! ### The decoder undoes the encoder -/

/-- Settles O7, by the kind of the frame: each field is read where it was written. -/
theorem decodeOfEncodedFrame : Obligations.DecodeOfEncodedFrame := by
  unfold Obligations.DecodeOfEncodedFrame
  intro c f permit first wf encoded permitGiven firstGiven
  cases c with
  | breakFrame m =>
    obtain rfl := Option.some.inj encoded
    rw [firstGiven m rfl]
    rfl
  | unknownKind kind =>
    obtain rfl := Option.some.inj encoded
    exact decodeFrame_unknownKind (by simpa [Instr.wellFormed] using wf)
  | setup fields p =>
    obtain rfl := Option.some.inj encoded
    rw [permitGiven fields p rfl]
    simp only [decodeFrame, sealFrame_checks, sealFrame_isBreak, sealFrame_words, bitsAt_headerWord_kind,
      bytesWord_fields, limitsWord_fields]
    rfl
  | fill | duty d | pump direction duty | rate h hp =>
    obtain rfl := Option.some.inj encoded
    simp [decodeFrame]
  | tableInput | tableCommutation | tableProfile | tableRamp | tableRampLength =>
    obtain rfl := Option.some.inj encoded
    simp only [decodeFrame_tableFrame, decodeTable, tableFrame_fields, inputWord_fields, commutationWord_fields,
      profileWord_fields, bytesWord_fields, interval_rejoined, lengthWord_field]
    rfl
  | tableUnknownId id =>
    obtain rfl := Option.some.inj encoded
    rw [decodeFrame_tableFrame, decodeTable_unknown (by simpa [Instr.wellFormed] using wf)]
  | queryLink | queryDrum | queryDrumSnap | queryPump | queryPumpRingA | queryPumpRingB | queryPumpSnap
  | queryTable =>
    obtain rfl := Option.some.inj encoded
    simp only [decodeFrame_queryFrame, decodeQuery, queryFrame_fields, rowWord_fields]
    rfl
  | queryUnknownPage page =>
    obtain rfl := Option.some.inj encoded
    rw [decodeFrame_queryFrame, decodeQuery_unknown (by simpa [Instr.wellFormed] using wf)]
  | startDrum | startPump | stopCoastDrum | stopBrakeDrum | stopCoastPump | stopBrakePump | clearDrum | clearPump
  | clearFlags | reset =>
    obtain rfl := Option.some.inj encoded
    rw [decodeFrame_controlFrame]
    rfl
  | dryOn m | dryOff m | reportOn m | reportOff m =>
    obtain rfl := Option.some.inj encoded
    rw [decodeFrame_controlFrame]
    cases m <;> rfl
  | controlUnknownCode code =>
    obtain rfl := Option.some.inj encoded
    rw [decodeFrame_controlFrame, decodeControl_unknown (by simpa [Instr.wellFormed] using wf)]
  | powerReset | pinReset | pinResetRelease | frameBegin | shortFrame | checkError | faultLineFall | faultLineRise
  | enableTimeReached | drumPeriodStart | planPoint | planEdge | pumpPeriodStart | pumpPeak | pumpSpanEdge
  | conversionStart | conversionDone | requestExpiry | dueCommutation | zcTimeout | rampCommutation =>
    exact nomatch encoded

/-! ### The check and an inverted bit (R147) -/

/-- Inputs that each keep different registers apart keep them apart together, by induction on the inputs. -/
theorem foldl_injective {α β : Type} {f : α → β → α} (keeps : ∀ b, Function.Injective (f · b)) (l : List β) :
    Function.Injective (l.foldl f ·) := by
  induction l with
  | nil => exact fun _ _ h => h
  | cons b l ih => exact fun _ _ h => keeps b (ih h)

/-- Where each input keeps different registers apart, and a changed input shows in the register at once, one changed
input among many shows in the last register. -/
theorem foldl_modify_ne {α β : Type} {f : α → β → α} {change : β → β} (keeps : ∀ b, Function.Injective (f · b))
    (differs : ∀ a b, f a (change b) ≠ f a b) {l : List β} {k : Nat} (h : k < l.length) (a : α) :
    (l.modify k change).foldl f a ≠ l.foldl f a := by
  induction l generalizing k a with
  | nil => cases h
  | cons b l ih =>
    cases k with
    | zero => simpa using (foldl_injective keeps l).ne (differs a b)
    | succ k => simpa using ih (Nat.lt_of_succ_lt_succ h) (f a b)

/-- Bit 0 of the register tells whether the bit that left it agreed with the bit that entered. -/
theorem crcBit_getLsbD_zero (reg : Word) (bit : Bool) : (crcBit reg bit).getLsbD 0 = (reg.msb != bit) := by
  unfold crcBit
  split <;> simp_all

theorem crcBit_injective (bit : Bool) : Function.Injective (crcBit · bit) := by
  intro r r' h
  have msb : r.msb = r'.msb := by
    have low := congrArg (BitVec.getLsbD · 0) h
    simpa only [crcBit_getLsbD_zero, Bool.bne_left_inj] using low
  have shifted : r <<< 1 = r' <<< 1 := by
    simp only [crcBit, msb] at h
    split at h
    · simpa using h
    · exact h
  refine BitVec.eq_of_getLsbD_eq fun i hi => ?_
  rcases Nat.lt_or_eq_of_le (Nat.le_of_lt_succ hi) with below | rfl
  · have next : i + 1 < 16 := Nat.add_lt_add_right below 1
    simpa only [BitVec.getLsbD_shiftLeft, next, decide_true, Nat.not_lt_zero, Nat.add_sub_cancel,
      Nat.not_lt.2 (Nat.le_add_left 1 i), decide_false, Bool.not_false, Bool.true_and] using
      congrArg (BitVec.getLsbD · (i + 1)) shifted
  · simpa only [BitVec.msb_eq_getLsbD_last] using msb

theorem crcBit_not_ne (reg : Word) (bit : Bool) : crcBit reg (!bit) ≠ crcBit reg bit := by
  intro h
  have low := congrArg (BitVec.getLsbD · 0) h
  simp only [crcBit_getLsbD_zero] at low
  cases bit <;> simp at low

theorem wordBits_flip (w : Word) {i : Nat} (h : i < 16) :
    wordBits (w ^^^ (1#16 <<< i)) = (wordBits w).modify (15 - i) not := by
  interval_cases i <;> simp [wordBits]

theorem crcWord_injective (w : Word) : Function.Injective (crcWord · w) :=
  foldl_injective crcBit_injective (wordBits w)

/-- The words of a frame that the check covers, the `k`th with its bit `i` inverted (R147). -/
theorem crcOf_flip_ne (w0 w1 w2 w3 w4 w5 w6 : Word) {i k : Nat} (hi : i < 16) (hk : k < 7) :
    ([w0, w1, w2, w3, w4, w5, w6].modify k (· ^^^ (1#16 <<< i))).foldl crcWord 0xFFFF#16 ≠
      crcOf w0 w1 w2 w3 w4 w5 w6 := by
  refine foldl_modify_ne crcWord_injective (fun reg w => ?_) hk _
  simp only [crcWord, wordBits_flip w hi]
  exact foldl_modify_ne crcBit_injective crcBit_not_ne (by simp [wordBits]; omega) reg

/-- Settles O8: the branches of the decoder; and an inverted bit changes the register, which later bits keep apart. -/
theorem damagedFramesAreDiscarded : Obligations.DamagedFramesAreDiscarded := by
  unfold Obligations.DamagedFramesAreDiscarded
  refine ⟨fun permit first => ⟨fun f whole damaged => ?_, rfl, fun bits short => if_pos short⟩, ?_⟩
  · have notBreak : f.isBreak = false := beq_eq_false_iff_ne.2 whole
    have noCheck : f.checks = false := beq_eq_false_iff_ne.2 damaged
    simp [decodeFrame, notBreak, noCheck]
  · intro w0 w1 w2 w3 w4 w5 w6 i hi e f
    have flipped {k : Nat} (hk : k < 7) := (crcOf_flip_ne w0 w1 w2 w3 w4 w5 w6 hi hk).symm
    have check : f.w7 ≠ f.w7 ^^^ e := by
      have bit : e.getLsbD i = true := by simp [e, hi]
      intro h
      simpa [bit] using congrArg (BitVec.getLsbD · i) h
    refine ⟨sealFrame_checks .., ?_, ?_, ?_, ?_, ?_, ?_, ?_, ?_⟩ <;> apply beq_eq_false_iff_ne.2
    · exact flipped (k := 0) (by decide)
    · exact flipped (k := 1) (by decide)
    · exact flipped (k := 2) (by decide)
    · exact flipped (k := 3) (by decide)
    · exact flipped (k := 4) (by decide)
    · exact flipped (k := 5) (by decide)
    · exact flipped (k := 6) (by decide)
    · exact check.symm

end Sys2Proof
end

section
/-! PROOFS. Frames at the link: the falling edge of LSEL (R145, R159, R162), frames not taken (R156), frames answered
only (R151, R153), and damaged frames (R146 to R148). -/

namespace Sys2Proof.Machine

/-! ### The falling edge of LSEL (R145, R159, R160, R162) -/

/-- The five fields of the upstream header, each in its place (R162, section 10.2). -/
theorem upstreamHeader_fields (kind result : BitVec 4) (depth : BitVec 6) (gap sum : Bool) :
    (upstreamHeader kind result depth gap sum).extractLsb' 12 4 = kind ∧
    (upstreamHeader kind result depth gap sum).extractLsb' 8 4 = result ∧
    (upstreamHeader kind result depth gap sum).extractLsb' 2 6 = depth ∧
    (upstreamHeader kind result depth gap sum).getLsbD 1 = gap ∧
    (upstreamHeader kind result depth gap sum).getLsbD 0 = sum := by
  unfold upstreamHeader flag
  refine ⟨?_, ?_, ?_, ?_, ?_⟩ <;>
    grind [BitVec.extractLsb'_append_eq_of_le, BitVec.extractLsb'_append_eq_right]

theorem exec_frameBegin {s : State} (reset : s.link.resetN = true) (high : s.link.selected = false) :
    exec .frameBegin s = .next (beginFrame s) := by
  change execFrameBegin s = _
  simp [execFrameBegin, reset, high]

/-- The upstream frame shows the oldest record under a header with its kind (R159, R162). -/
theorem composeUpstream_words (s : State) :
    (composeUpstream s).w0 =
      upstreamHeader (shownKind s.rq.records.head?) s.link.result.code (BitVec.ofNat 6 (s.rq.records.length - 1))
        s.rq.gap (summary s) ∧
    (⟨(composeUpstream s).w1, (composeUpstream s).w2, (composeUpstream s).w3, (composeUpstream s).w4,
      (composeUpstream s).w5, (composeUpstream s).w6⟩ : Payload) = shownWords s.rq.records.head? := ⟨rfl, rfl⟩

/-- Settles O50: the upstream frame is the one composed, and its header holds each field in its place. -/
theorem frameBeginFixesUpstream : Obligations.FrameBeginFixesUpstream := by
  unfold Obligations.FrameBeginFixesUpstream
  intro s reset high
  obtain ⟨header, words⟩ := composeUpstream_words s
  obtain ⟨kind, result, depth, gap, sum⟩ := upstreamHeader_fields (shownKind s.rq.records.head?) s.link.result.code
    (BitVec.ofNat 6 (s.rq.records.length - 1)) s.rq.gap (summary s)
  rw [← header] at kind result depth gap sum
  refine ⟨composeUpstream s, sealFrame_checks .., ?_, result, gap, sum, fun held => ?_, fun empty => ?_,
    fun r rest held => ?_⟩
  · rw [exec_frameBegin reset high, ← BitVec.msb_eq_getLsbD_last]
    rfl
  · rw [depth, BitVec.toNat_ofNat]
    exact Nat.mod_eq_of_lt (by omega)
  · rw [empty] at kind words
    simp only [List.head?_nil, shownWords, Payload.zero, Payload.mk.injEq] at words
    exact ⟨kind, words⟩
  · rw [held] at kind words
    exact ⟨kind, words⟩

/-! ### Frames not taken, and frames from one command (R156; log 7) -/

/-- A completion acts on the frame under way alone, whatever the state (R146). -/
theorem exec_of_completesFrame {c : Instr} (completes : completesFrame c = true) :
    ∃ f, ∀ s, exec c s = .next (atCompletion f s) := by
  cases c
  case powerReset | pinReset | pinResetRelease | frameBegin | faultLineFall | faultLineRise | enableTimeReached
    | drumPeriodStart | planPoint | planEdge | pumpPeriodStart | pumpPeak | pumpSpanEdge | conversionStart
    | conversionDone | requestExpiry | dueCommutation | zcTimeout | rampCommutation => exact nomatch completes
  all_goals exact ⟨_, fun _ => rfl⟩

theorem atCompletion_of_not_taken (f : FrameInProgress → State → State) {s : State}
    (h : s.link.resetN = false ∨ (s.link.frame = none ∧ s.link.selected = true)) :
    atCompletion f s = { s with link := { s.link with selected := false } } := by
  unfold atCompletion
  rcases h with low | ⟨noFrame, selected⟩
  · simp [low, State.withLink]
  · simp [noFrame, selected, State.withLink]

theorem atCompletion_of_frame (f : FrameInProgress → State → State) {s : State} {fr : FrameInProgress}
    (h : Receiving s fr) : atCompletion f s = f fr s := by
  obtain ⟨reset, frame⟩ := h
  simp [atCompletion, reset, frame]

theorem atCompletion_beginFrame (f : FrameInProgress → State → State) {s : State} (reset : s.link.resetN = true)
    (noFrame : s.link.frame = none) (high : s.link.selected = false) :
    atCompletion f s = atCompletion f (beginFrame s) := by
  simp [atCompletion, beginFrame, reset, noFrame, high]

/-- Settles O51: every completion goes through `atCompletion`, which reads RESET_N, LSEL and the frame under way. -/
theorem framesNotTakenAndFramesWhole : Obligations.FramesNotTakenAndFramesWhole := by
  unfold Obligations.FramesNotTakenAndFramesWhole
  intro c s completes
  obtain ⟨f, acts⟩ := exec_of_completesFrame completes
  refine ⟨fun notTaken => ?_, fun reset noFrame high => ⟨_, exec_frameBegin reset high, ?_⟩⟩
  · rw [acts, atCompletion_of_not_taken f notTaken]
  · rw [acts, acts, atCompletion_beginFrame f reset noFrame high]

/-! ### Frames answered only (R151, R153, R164) -/

/-- A body that changes nothing gives its result, and that is all (R153). -/
theorem decideFrame_of_still {s : State} {fr : FrameInProgress} (receiving : Receiving s fr) {b : Body} {r : Result}
    (still : b (endBreakRun (sentWhole fr s)) = (endBreakRun (sentWhole fr s), r)) :
    decideFrame b s = answered fr r s := by
  rw [decideFrame_receiving receiving, runBody, still, setResult_sentWhole]

theorem exec_of_needsReady {c : Instr} (needs : needsReady c = true) :
    ∃ b, ∀ s, exec c s = .next (decideFrame (whenReady b) s) := by
  cases c
  case powerReset | pinReset | pinResetRelease | frameBegin | shortFrame | breakFrame | checkError | unknownKind | fill
    | setup | queryLink | queryDrum | queryDrumSnap | queryPump | queryPumpRingA | queryPumpRingB | queryPumpSnap
    | queryTable | faultLineFall | faultLineRise | enableTimeReached | drumPeriodStart | planPoint | planEdge
    | pumpPeriodStart | pumpPeak | pumpSpanEdge | conversionStart | conversionDone | requestExpiry | dueCommutation
    | zcTimeout | rampCommutation | queryUnknownPage => exact nomatch needs
  all_goals exact ⟨_, fun _ => rfl⟩

theorem whenReady_of_awaitSetup {s : State} (h : s.link.state = .awaitSetup) (b : Body) :
    whenReady b s = (s, .notSetUp) := by
  simp [whenReady, h]

/-- Settles O52: the bodies that leave the state as it is. -/
theorem framesAnsweredOnly : Obligations.FramesAnsweredOnly := by
  unfold Obligations.FramesAnsweredOnly
  refine ⟨fun c s fr receiving waits needs => ?_, fun s fr receiving => ?_⟩
  · obtain ⟨b, decided⟩ := exec_of_needsReady needs
    rw [decided, decideFrame_of_still receiving (whenReady_of_awaitSetup (s := endBreakRun (sentWhole fr s)) waits b)]
  · have refusedWhenReady (ready : s.link.state = .ready) :
        decideFrame (whenReady (refuse .badArgument)) s = answered fr .badArgument s :=
      decideFrame_of_still receiving (whenReady_of_ready (s := endBreakRun (sentWhole fr s)) ready _)
    exact ⟨next_congr (decideFrame_of_still receiving rfl), fun _ => next_congr (decideFrame_of_still receiving rfl),
      fun _ => next_congr (decideFrame_of_still receiving rfl), fun ready _ => next_congr (refusedWhenReady ready),
      fun ready _ => next_congr (refusedWhenReady ready)⟩

/-! ### Short frames and check errors (R146 to R148) -/

theorem countUp_eq (n : Nat) : countUp n = min (n + 1) 65535 := rfl

theorem exec_shortFrame {s : State} {fr : FrameInProgress} (receiving : Receiving s fr) (bits : Nat) :
    exec (.shortFrame bits) s = .next
      { s with
        rq := { s.rq with inTransit := false }
        link :=
          { linkAfter .lengthError s with
            bitCount := bits
            lengthErrors := min (s.link.lengthErrors + 1) 65535
            flags := { s.link.flags with lengthErr := true } } } := by
  change Host.Outcome.next (shortFrame bits s) = _
  rw [shortFrame, atCompletion_of_frame _ receiving]
  simp only [setResult_eq, countUp_eq, setLengthErr, State.withFlags, endBreakRun, sentShort, endFrame, State.withLink,
    State.withRq, linkAfter, Result.refused, Bool.or_false]

/-- The state in which a CHECK_ERROR has been counted and answered (R147). -/
def checkErrorCounted (fr : FrameInProgress) (s : State) : State :=
  { answered fr .checkError s with
    link :=
      { linkAfter .checkError s with
        checkErrors := min (s.link.checkErrors + 1) 65535
        flags := { s.link.flags with checkErr := true } } }

theorem setResult_setLinkDegraded (r : Result) (s : State) :
    setResult r (setLinkDegraded s) = setLinkDegraded (setResult r s) := by
  simp only [setResult_eq, setLinkDegraded, State.withFlags, State.withLink]

/-- The notice joins at the count that comes to the threshold, and not again at a count that stands there (R148). -/
theorem exec_checkError {s : State} {fr : FrameInProgress} (receiving : Receiving s fr) :
    exec .checkError s = .next
      (if min (s.link.checkErrors + 1) 65535 = s.setup.threshold ∧
          min (s.link.checkErrors + 1) 65535 ≠ s.link.checkErrors then
        joinNotice (.linkDegraded s.setup.threshold) (setLinkDegraded (checkErrorCounted fr s))
      else checkErrorCounted fr s) := by
  have counted : setResult .checkError (setCheckErr ((endBreakRun (sentWhole fr s)).withLink
      { (endBreakRun (sentWhole fr s)).link with checkErrors := countUp s.link.checkErrors })) =
      checkErrorCounted fr s := by
    rw [endBreakRun_sentWhole]
    simp only [setResult_eq, setCheckErr, State.withFlags, State.withLink, countUp_eq, checkErrorCounted, answered,
      linkAfter, Result.refused, Bool.or_false]
  have errors : (endBreakRun (sentWhole fr s)).link.checkErrors = s.link.checkErrors := rfl
  have setup : (endBreakRun (sentWhole fr s)).setup = s.setup := rfl
  change Host.Outcome.next (decideFrame checkErrorBody s) = _
  rw [decideFrame_receiving receiving, runBody]
  simp only [checkErrorBody, errors, setup]
  rw [← countUp_eq]
  split
  · rw [setResult_joinNotice, setResult_setLinkDegraded, counted]
  · rw [counted]

/-- Settles O53: the count stands below the threshold or past it, or comes to it. -/
theorem damagedFramesAreCounted : Obligations.DamagedFramesAreCounted := by
  unfold Obligations.DamagedFramesAreCounted
  intro s fr receiving
  refine ⟨exec_shortFrame receiving, fun elsewhere => ?_, fun reached below => ?_⟩
  · refine (exec_checkError receiving).trans (next_congr (if_neg ?_))
    rintro ⟨reached, counts⟩
    rcases elsewhere with elsewhere | saturated
    · exact elsewhere reached
    · simp [saturated] at counts
  · exact (exec_checkError receiving).trans (next_congr (if_pos ⟨reached, by omega⟩))

end Sys2Proof.Machine
end

section
/-! PROOFS. Break frames and the link break (R149, R150). -/

namespace Sys2Proof.Machine

/-! ### Notices that join one after another (R157, R163) -/

/-- Notices join in the order of the list. -/
def joinNotices (l : List Notice) (s : State) : State := l.foldl (fun w n => joinNotice n w) s

theorem joinNotices_cons (n : Notice) (l : List Notice) (s : State) :
    joinNotices (n :: l) s = joinNotices l (joinNotice n s) := rfl

theorem joinNotices_append (l m : List Notice) (s : State) :
    joinNotices (l ++ m) s = joinNotices m (joinNotices l s) := List.foldl_append

theorem joinNotices_kept (l : List Notice) (s : State) :
    (joinNotices l s).time = s.time ∧ (joinNotices l s).drumCar = s.drumCar := by
  induction l generalizing s with
  | nil => exact ⟨rfl, rfl⟩
  | cons n l ih => simpa [joinNotices_cons] using ih (joinNotice n s)

/-- What notices leave in the Record Queue depends on that queue, the clock and the Drum Carrier (R158, R163). -/
theorem joinNotices_congr (l : List Notice) {s t : State} (rq : s.rq = t.rq) (time : s.time = t.time)
    (car : s.drumCar = t.drumCar) : (joinNotices l s).rq = (joinNotices l t).rq := by
  induction l generalizing s t with
  | nil => exact rq
  | cons n l ih => exact ih (joinNotice_congr n rq time car).1 (by simpa using time) (by simpa using car)

/-- Where one event lets `l` join and the next lets `m` join, both together let `l` join and then `m`. -/
theorem joinNotices_after {l m : List Notice} {s t u : State} (first : t.rq = (joinNotices l s).rq)
    (time : t.time = s.time) (car : t.drumCar = s.drumCar) (second : u.rq = (joinNotices m t).rq) :
    u.rq = (joinNotices (l ++ m) s).rq := by
  obtain ⟨keptTime, keptCar⟩ := joinNotices_kept l s
  rw [second, joinNotices_append]
  exact joinNotices_congr m first (time.trans keptTime.symm) (car.trans keptCar.symm)

/-! ### A link break at the drum (R95 to R97) -/

theorem drumLinkBreak_of_running {s : State} (h : s.drum.state = .run ∨ s.drum.state = .brake) :
    drumLinkBreak s = enterDrumSafe .linkBreak s := by
  rcases h with h | h <;> simp [drumLinkBreak, h]

theorem drumLinkBreak_of_safe {s : State} (h : s.drum.state = .safe) : drumLinkBreak s = addDrumCause .linkBreak s := by
  simp [drumLinkBreak, h]

theorem drumLinkBreak_of_still {s : State}
    (h : s.drum.state = .off ∨ s.drum.state = .offset ∨ s.drum.state = .ready) : drumLinkBreak s = s := by
  rcases h with h | h | h <;> simp [drumLinkBreak, h]

/-- What a link break makes of the drum's control. -/
structure DrumBroken (before after : DrumControl) : Prop where
  running : before.state = .run ∨ before.state = .brake →
    after.state = .safe ∧ after.cause = some ⟨.linkBreak, ⟨false, false, false⟩⟩
  safe : before.state = .safe →
    after = { before with
      cause := before.cause.map fun r => { r with further := { r.further with linkBreak := true } } }
  still : before.state = .off ∨ before.state = .offset ∨ before.state = .ready → after = before

theorem drumLinkBreak_drum (s : State) : DrumBroken s.drum (drumLinkBreak s).drum where
  running h := by simp [drumLinkBreak_of_running h, FurtherCauses.empty]
  safe h := by rw [drumLinkBreak_of_safe h]; rfl
  still h := by rw [drumLinkBreak_of_still h]

/-- The notice of a drum that a link break takes to SAFE (R103). -/
def drumBreakNotices (d : DrumControl) : List Notice :=
  if d.state = .run ∨ d.state = .brake then [.safeEntry .drum .linkBreak] else []

theorem enterDrumSafe_rq (c : Cause) (s : State) :
    (enterDrumSafe c s).rq = (joinNotice (.safeEntry .drum c) s).rq :=
  (joinNotice_congr _ (by simp) (by simp) (by simp)).1

theorem drumLinkBreak_rq (s : State) : (drumLinkBreak s).rq = (joinNotices (drumBreakNotices s.drum) s).rq := by
  unfold drumBreakNotices
  split
  case isTrue running => exact (drumLinkBreak_of_running running).symm ▸ enterDrumSafe_rq .linkBreak s
  case isFalse still =>
    unfold drumLinkBreak
    split
    case h_1 h => exact absurd (.inl h) still
    case h_2 h => exact absurd (.inr h) still
    all_goals rfl

/-! ### A link break at the pump (R140, R141) -/

theorem pumpLinkBreak_of_running {s : State} (h : s.pump.state.running = true) :
    pumpLinkBreak s = enterPumpSafe .linkBreak s := by
  unfold pumpLinkBreak
  split
  case h_1 | h_2 | h_3 => rfl
  all_goals simp_all [PumpState.running]

theorem pumpLinkBreak_of_safe {s : State} (h : s.pump.state = .safe) : pumpLinkBreak s = addPumpCause .linkBreak s := by
  simp [pumpLinkBreak, h]

theorem pumpLinkBreak_of_still {s : State} (h : s.pump.state = .off ∨ s.pump.state = .offset) :
    pumpLinkBreak s = s := by
  rcases h with h | h <;> simp [pumpLinkBreak, h]

/-- What a link break makes of the pump's control. -/
structure PumpBroken (before after : PumpControl) : Prop where
  running : before.state.running = true →
    after.state = .safe ∧ after.cause = some ⟨.linkBreak, ⟨false, false, false⟩⟩
  safe : before.state = .safe →
    after = { before with
      cause := before.cause.map fun r => { r with further := { r.further with linkBreak := true } } }
  still : before.state = .off ∨ before.state = .offset → after = before

theorem pumpLinkBreak_pump (s : State) : PumpBroken s.pump (pumpLinkBreak s).pump where
  running h := by simp [pumpLinkBreak_of_running h, FurtherCauses.empty]
  safe h := by rw [pumpLinkBreak_of_safe h]; rfl
  still h := by rw [pumpLinkBreak_of_still h]

/-- The notice of a pump that a link break takes to SAFE (R143). -/
def pumpBreakNotices (p : PumpControl) : List Notice :=
  if p.state.running then [.safeEntry .pump .linkBreak] else []

theorem pumpLinkBreak_rq (s : State) : (pumpLinkBreak s).rq = (joinNotices (pumpBreakNotices s.pump) s).rq := by
  unfold pumpBreakNotices
  split
  case isTrue running => exact (pumpLinkBreak_of_running running).symm ▸ enterPumpSafe_rq .linkBreak s
  case isFalse still =>
    unfold pumpLinkBreak
    split
    case h_1 h | h_2 h | h_3 h => exact absurd (h ▸ rfl) still
    all_goals rfl

/-! ### The link break at both motors (R150) -/

theorem enterDrumSafe_link (c : Cause) (s : State) :
    (enterDrumSafe c s).link.breakRun = s.link.breakRun ∧
    (enterDrumSafe c s).link.flags.broke = s.link.flags.broke := by
  simp only [enterDrumSafe, joinNotice_link, takeDrumSnapshot]
  split <;> simp [setSnapshotLost, State.withFlags]

theorem enterPumpSafe_link (c : Cause) (s : State) :
    (enterPumpSafe c s).link.breakRun = s.link.breakRun ∧
    (enterPumpSafe c s).link.flags.broke = s.link.flags.broke := by
  simp only [enterPumpSafe, joinNotice_link, takePumpSnapshot]
  split <;> simp [setSnapshotLost, State.withFlags]

theorem drumLinkBreak_link (s : State) :
    (drumLinkBreak s).link.breakRun = s.link.breakRun ∧ (drumLinkBreak s).link.flags.broke = s.link.flags.broke := by
  unfold drumLinkBreak
  split
  case h_1 | h_2 => exact enterDrumSafe_link _ s
  all_goals exact ⟨rfl, rfl⟩

theorem pumpLinkBreak_link (s : State) :
    (pumpLinkBreak s).link.breakRun = s.link.breakRun ∧ (pumpLinkBreak s).link.flags.broke = s.link.flags.broke := by
  unfold pumpLinkBreak
  split
  case h_1 | h_2 | h_3 => exact enterPumpSafe_link _ s
  all_goals exact ⟨rfl, rfl⟩

/-- A link break sets BREAK and leaves the link's state and its run of break frames (R150). -/
theorem linkBreak_link (first : Motor) (s : State) :
    (linkBreak first s).link.state = s.link.state ∧ (linkBreak first s).link.breakRun = s.link.breakRun ∧
    (linkBreak first s).link.flags.broke = true := by
  refine ⟨(linkBreak_steady first s).link, ?_⟩
  cases first <;>
    simp [linkBreak, bothMotors, drumLinkBreak_link, pumpLinkBreak_link, setBroke, State.withFlags]

theorem linkBreak_kept (first : Motor) (s : State) :
    (linkBreak first s).time = s.time ∧ (linkBreak first s).drumCar = s.drumCar ∧
    (linkBreak first s).pumpCar = s.pumpCar ∧ (linkBreak first s).setup = s.setup ∧
    (linkBreak first s).sched = s.sched := by
  cases first <;> simp [linkBreak, bothMotors]

theorem linkBreak_drum (first : Motor) (s : State) : DrumBroken s.drum (linkBreak first s).drum := by
  cases first with
  | drum => simpa [linkBreak, bothMotors] using drumLinkBreak_drum (joinNotice .linkBreak (setBroke s))
  | pump => simpa [linkBreak, bothMotors] using drumLinkBreak_drum (pumpLinkBreak (joinNotice .linkBreak (setBroke s)))

theorem linkBreak_pump (first : Motor) (s : State) : PumpBroken s.pump (linkBreak first s).pump := by
  cases first with
  | drum => simpa [linkBreak, bothMotors] using pumpLinkBreak_pump (drumLinkBreak (joinNotice .linkBreak (setBroke s)))
  | pump => simpa [linkBreak, bothMotors] using pumpLinkBreak_pump (joinNotice .linkBreak (setBroke s))

/-- The notices of the motors that a link break takes to SAFE, in the command's order (R150). -/
def motorBreakNotices (first : Motor) (s : State) : List Notice :=
  if first = .drum then drumBreakNotices s.drum ++ pumpBreakNotices s.pump
  else pumpBreakNotices s.pump ++ drumBreakNotices s.drum

/-- The link break's own notice joins before those of the motors (R150). -/
theorem linkBreak_rq (first : Motor) (s : State) :
    (linkBreak first s).rq = (joinNotices (.linkBreak :: motorBreakNotices first s) s).rq := by
  let u := joinNotice .linkBreak (setBroke s)
  have own : u.rq = (joinNotices [.linkBreak] s).rq := (joinNotice_congr _ (by simp) (by simp) (by simp)).1
  have motors : (linkBreak first s).rq = (joinNotices (motorBreakNotices first s) u).rq := by
    have drum : u.drum = s.drum := by simp [u]
    have pump : u.pump = s.pump := by simp [u]
    cases first with
    | drum =>
      refine joinNotices_after (t := drumLinkBreak u) ?_ (by simp) (by simp) ?_
      · exact drum ▸ drumLinkBreak_rq u
      · exact (show (drumLinkBreak u).pump = s.pump by simp [pump]) ▸ pumpLinkBreak_rq (drumLinkBreak u)
    | pump =>
      refine joinNotices_after (t := pumpLinkBreak u) ?_ (by simp) (by simp) ?_
      · exact pump ▸ pumpLinkBreak_rq u
      · exact (show (pumpLinkBreak u).drum = s.drum by simp [drum]) ▸ drumLinkBreak_rq (pumpLinkBreak u)
  exact joinNotices_after own (by simp [u]) (by simp [u]) motors

theorem linkBreak_of_off (first : Motor) {s : State} (drum : s.drum.state = .off) (pump : s.pump.state = .off) :
    linkBreak first s = joinNotice .linkBreak (setBroke s) := by
  have drumStill : drumLinkBreak (joinNotice .linkBreak (setBroke s)) = joinNotice .linkBreak (setBroke s) :=
    drumLinkBreak_of_still (by simp [drum])
  have pumpStill : pumpLinkBreak (joinNotice .linkBreak (setBroke s)) = joinNotice .linkBreak (setBroke s) :=
    pumpLinkBreak_of_still (by simp [pump])
  cases first <;> simp only [linkBreak, bothMotors, drumStill, pumpStill]

/-! ### BREAK_FRAME (R149, R150) -/

/-- The state a break frame is decided in: sent whole, with its run counted (R149). -/
def breakCounted (fr : FrameInProgress) (run : Nat) (s : State) : State :=
  (sentWhole fr s).withLink { (sentWhole fr s).link with breakRun := run }

theorem setResult_breakCounted (fr : FrameInProgress) (run : Nat) (s : State) :
    setResult .broke (breakCounted fr run s) =
      { answered fr .broke s with link := { linkAfter .broke s with breakRun := run } } := by
  rw [breakCounted, sentWhole, sent_eq_queueAfter, setResult_eq]
  rfl

theorem setResult_setBroke_breakCounted (fr : FrameInProgress) (run : Nat) (s : State) :
    setResult .broke (setBroke (breakCounted fr run s)) =
      { answered fr .broke s with
        link := { linkAfter .broke s with breakRun := run, flags := { s.link.flags with broke := true } } } := by
  rw [breakCounted, sentWhole, sent_eq_queueAfter]
  rfl

theorem exec_breakFrame {s : State} {fr : FrameInProgress} (receiving : Receiving s fr) (first : Motor) :
    exec (.breakFrame first) s = .next
      (setResult .broke
        (if s.link.breakRun = 1 then linkBreak first (breakCounted fr (min (s.link.breakRun + 1) 2) s)
        else breakCounted fr (min (s.link.breakRun + 1) 2) s)) := by
  change Host.Outcome.next (breakFrame first s) = _
  rw [breakFrame, atCompletion_of_frame _ receiving]
  rfl

/-- Settles O54: the run counts, and the second frame in a row is a link break at both motors. -/
theorem secondBreakFrameIsLinkBreak : Obligations.SecondBreakFrameIsLinkBreak := by
  unfold Obligations.SecondBreakFrameIsLinkBreak
  intro first s fr receiving u onDrum onPump notices
  refine ⟨fun single => ?_, fun second => ?_⟩
  · rw [exec_breakFrame receiving, if_neg single, setResult_breakCounted]
  · let v := breakCounted fr 2 s
    have executed : exec (.breakFrame first) s = .next (setResult .broke (linkBreak first v)) := by
      rw [exec_breakFrame receiving, if_pos second, second]
      rfl
    have answer : setResult .broke v = u 2 := setResult_breakCounted fr 2 s
    obtain ⟨state, run, broke⟩ := linkBreak_link first v
    obtain ⟨time, drumCar, pumpCar, setup, sched⟩ := linkBreak_kept first v
    have drum : DrumBroken s.drum (linkBreak first v).drum := linkBreak_drum first v
    have pump : PumpBroken s.pump (linkBreak first v).pump := linkBreak_pump first v
    have records : (linkBreak first v).rq = (joinNotices notices (u 2)).rq :=
      (linkBreak_rq first v).trans (joinNotices_congr _ (by simp [← answer]) rfl rfl)
    refine ⟨_, executed, broke, run, rfl, state, setup, time, drumCar, pumpCar, sched, records, drum.running, drum.safe,
      drum.still, pump.running, pump.safe, pump.still, fun ⟨drumOff, pumpOff⟩ => ?_⟩
    have noted : linkBreak first v = joinNotice .linkBreak (setBroke v) := linkBreak_of_off first drumOff pumpOff
    rw [noted, setResult_joinNotice, setResult_setBroke_breakCounted]

end Sys2Proof.Machine
end

section
/-! PROOFS. The Record Queue (R157, R158): what a joining record does, and that each operation of the two motors, the
reconstructor and the scheduler keeps the queue's bound and the record in transit. -/

namespace Sys2Proof.Machine

/-! ### A joining record (R158) -/

theorem joinRecord_of_room (r : Record) {s : State} (room : s.rq.records.length < 32) :
    joinRecord r s = { s with rq := { s.rq with records := s.rq.records ++ [r] } } := if_pos room

/-- The oldest record not in transit is the head, or the one behind it when the head is being sent. -/
theorem displaceOldest_of_two {q : RecordQueue} {head second : Record} {rest : List Record}
    (two : q.records = head :: second :: rest) :
    displaceOldest q = if q.inTransit then head :: rest else second :: rest := by
  simp [displaceOldest, two]

theorem displaceOldest_length {q : RecordQueue} (two : 2 ≤ q.records.length) :
    (displaceOldest q).length + 1 = q.records.length := by
  match held : q.records, two with
  | head :: second :: rest, _ =>
    rw [displaceOldest_of_two held]
    split <;> rfl

theorem joinRecord_of_full (r : Record) {s : State} (full : 32 ≤ s.rq.records.length) :
    joinRecord r s =
      { s with
        rq :=
          { s.rq with records := displaceOldest s.rq ++ [r], lost := min (s.rq.lost + 1) 65535, gap := true }
        link :=
          { s.link with
            flags := { s.link.flags with overrun := true }
            frame := s.link.frame.map fun f => { f with displaced := true } } } := if_neg (not_lt.2 full)

/-- A full queue stays as long as it was. -/
theorem joinRecord_length_of_full (r : Record) {s : State} (full : 32 ≤ s.rq.records.length) :
    (joinRecord r s).rq.records.length = s.rq.records.length := by
  have displaced := displaceOldest_length (q := s.rq) (by omega)
  rw [joinRecord_of_full r full]
  simpa using displaced

/-! ### The queue's law (R157, R158) -/

/-- The law `RecordsKept`, of the queue by itself: no other part of the state has a say in it. -/
structure RecordQueue.Kept (q : RecordQueue) : Prop where
  capacity : q.records.length ≤ 32
  lost : q.lost ≤ 65535
  transit : q.inTransit = true → q.records ≠ []

theorem recordsKept_iff (s : State) : RecordsKept s ↔ s.rq.Kept :=
  ⟨fun h => ⟨h.capacity, h.lost, h.transit⟩, fun h => ⟨h.capacity, h.lost, h.transit⟩⟩

/-- A queue that records have left, with none in transit any more (R159). -/
theorem RecordQueue.Kept.of_sublist {q p : RecordQueue} (h : q.Kept) (records : p.records.Sublist q.records)
    (lost : p.lost ≤ q.lost) (transit : p.inTransit = false) : p.Kept :=
  ⟨records.length_le.trans h.capacity, lost.trans h.lost, fun sent => absurd sent (by simp [transit])⟩

section
variable {s : State} (h : s.rq.Kept)
include h

theorem joinRecord_queueKept (r : Record) : (joinRecord r s).rq.Kept where
  capacity := by
    rcases Nat.lt_or_ge s.rq.records.length 32 with room | full
    · rw [joinRecord_of_room r room]
      simpa using room
    · rw [joinRecord_length_of_full r full]
      exact h.capacity
  lost := by
    rcases Nat.lt_or_ge s.rq.records.length 32 with room | full
    · rw [joinRecord_of_room r room]
      exact h.lost
    · rw [joinRecord_of_full r full]
      exact Nat.min_le_right _ _
  transit _ empty := by simpa [empty] using joinRecord_last r s

theorem joinNotice_queueKept (n : Notice) : (joinNotice n s).rq.Kept := joinRecord_queueKept h _

/-! ### Drum State Control -/

theorem changeDrum_queueKept (st : DrumState) : (changeDrum st s).rq.Kept :=
  joinNotice_queueKept (by simpa using h) _

theorem enterDrumSafe_queueKept (c : Cause) : (enterDrumSafe c s).rq.Kept := by
  rw [enterDrumSafe_rq]
  exact joinNotice_queueKept h _

theorem addDrumCause_queueKept (c : Cause) : (addDrumCause c s).rq.Kept := by simpa using h

theorem drumGateFault_queueKept : (drumGateFault s).rq.Kept := by
  unfold drumGateFault
  split
  case h_1 => exact h
  case h_6 => exact addDrumCause_queueKept h _
  all_goals exact enterDrumSafe_queueKept h _

theorem drumPermitLost_queueKept : (drumPermitLost s).rq.Kept := by
  unfold drumPermitLost
  split
  case h_1 =>
    split
    · exact h
    · exact enterDrumSafe_queueKept h _
  case h_2 => exact addDrumCause_queueKept h _
  all_goals exact h

theorem drumOverTemp_queueKept : (drumOverTemp s).rq.Kept := by
  unfold drumOverTemp
  split
  case h_1 | h_2 => exact enterDrumSafe_queueKept h _
  all_goals exact h

theorem drumLinkBreak_queueKept : (drumLinkBreak s).rq.Kept := by
  unfold drumLinkBreak
  split
  case h_1 | h_2 => exact enterDrumSafe_queueKept h _
  case h_3 => exact addDrumCause_queueKept h _
  all_goals exact h

theorem drumOvercurrent_queueKept : (drumOvercurrent s).rq.Kept := by
  unfold drumOvercurrent
  split
  · exact enterDrumSafe_queueKept h _
  · exact h

theorem offsetDone_queueKept (m : Motor) (x : Measurand) (offset : Nat) :
    (joinNotice (.offsetDone m offset) (writeOffset x offset s)).rq.Kept :=
  joinNotice_queueKept (by simpa using h) _

theorem endDrumCalibration_queueKept : (endDrumCalibration s).rq.Kept := by
  unfold endDrumCalibration
  simp only
  split
  · exact changeDrum_queueKept (offsetDone_queueKept h _ _ _) _
  · exact enterDrumSafe_queueKept h _

theorem drumCalibrationCode_queueKept (p : Word) (raw : Code) : (drumCalibrationCode p raw s).rq.Kept := by
  have sampled : ∀ x, (s.withDrum x).rq.Kept := fun _ => h
  unfold drumCalibrationCode
  simp only
  split
  · split
    · exact endDrumCalibration_queueKept (sampled _)
    · exact sampled _
  · exact h

/-! ### Pump State Control -/

theorem pumpStateNotice_queueKept (st : PumpState) : (pumpStateNotice st s).rq.Kept := joinNotice_queueKept h _

theorem pumpOff_queueKept : (pumpOff s).rq.Kept := pumpStateNotice_queueKept (by simpa using h) _

theorem enterPumpOffset_queueKept : (enterPumpOffset s).rq.Kept := pumpStateNotice_queueKept (by simpa using h) _

theorem enterAlign_queueKept : (enterAlign s).rq.Kept := pumpStateNotice_queueKept (by simpa using h) _

theorem enterRamp_queueKept : (enterRamp s).rq.Kept :=
  pumpStateNotice_queueKept (by exact h) _

theorem enterClosed_queueKept (duty : Word) : (enterClosed duty s).rq.Kept :=
  pumpStateNotice_queueKept (by exact h) _

theorem enterPumpSafe_queueKept (c : Cause) : (enterPumpSafe c s).rq.Kept := by
  rw [enterPumpSafe_rq]
  exact joinNotice_queueKept h _

theorem addPumpCause_queueKept (c : Cause) : (addPumpCause c s).rq.Kept := by simpa using h

theorem pumpGateFault_queueKept : (pumpGateFault s).rq.Kept := by
  unfold pumpGateFault
  split
  case h_1 => exact h
  case h_6 => exact addPumpCause_queueKept h _
  all_goals exact enterPumpSafe_queueKept h _

theorem pumpPermitLost_queueKept : (pumpPermitLost s).rq.Kept := by
  unfold pumpPermitLost
  split
  case h_1 | h_2 | h_3 =>
    split
    · exact h
    · exact enterPumpSafe_queueKept h _
  case h_4 => exact addPumpCause_queueKept h _
  all_goals exact h

theorem pumpOverTemp_queueKept : (pumpOverTemp s).rq.Kept := by
  unfold pumpOverTemp
  split
  · exact enterPumpSafe_queueKept h _
  · exact h

theorem pumpLinkBreak_queueKept : (pumpLinkBreak s).rq.Kept := by
  unfold pumpLinkBreak
  split
  case h_1 | h_2 | h_3 => exact enterPumpSafe_queueKept h _
  case h_4 => exact addPumpCause_queueKept h _
  all_goals exact h

theorem currentSample_queueKept (raw : Code) (v : Int) : (currentSample raw v s).rq.Kept := by
  have added : ∀ x, ((addSample v s).withPump x).rq.Kept := fun _ => by simpa using h
  unfold currentSample
  simp only
  split
  · split
    · exact enterPumpSafe_queueKept (added _) _
    · exact added _
  · exact added _

theorem endPumpCalibration_queueKept : (endPumpCalibration s).rq.Kept := by
  have done := offsetDone_queueKept h .pump .pumpShunt (calibratedOffset s.pump.calib.sum)
  unfold endPumpCalibration
  simp only
  split
  · split
    · exact enterAlign_queueKept done
    · exact enterPumpSafe_queueKept done _
  · exact enterPumpSafe_queueKept h _

theorem pumpCalibrationCode_queueKept (p : Word) (raw : Code) : (pumpCalibrationCode p raw s).rq.Kept := by
  have sampled : ∀ x, (s.withPump x).rq.Kept := fun _ => h
  unfold pumpCalibrationCode
  simp only
  split
  · split
    · exact endPumpCalibration_queueKept (sampled _)
    · exact sampled _
  · exact h

theorem pumpShuntCode_queueKept (p : Word) (t : Tick) (raw : Code) (v : Int) :
    (pumpShuntCode p t raw v s).rq.Kept := by
  unfold pumpShuntCode
  split
  · exact pumpCalibrationCode_queueKept h p raw
  · split
    · exact currentSample_queueKept h raw v
    · exact h

/-! ### The Pump Commutator -/

theorem commutate_queueKept (kind : StepKind) (virtual : Option Tick) : (commutate kind virtual s).rq.Kept := by
  rw [(commutate_rq kind virtual s).1]
  unfold reportStep
  split
  · exact joinRecord_queueKept h _
  · exact h

theorem timeCommutation_queueKept (z : Tick) : (timeCommutation z s).rq.Kept := by
  have timed : ∀ x, (s.withComm x).rq.Kept := fun _ => h
  unfold timeCommutation
  simp only
  split
  · exact commutate_queueKept (timed _) _ _
  · exact timed _

theorem countStable_queueKept (i : Option Nat) : (countStable i s).rq.Kept := by
  have counted : ∀ x, (s.withPump x).rq.Kept := fun _ => h
  unfold countStable
  split
  · exact h
  · simp only
    split
    · split
      · exact enterClosed_queueKept (counted _) _
      · exact counted _
    · exact counted _

theorem acceptCrossing_queueKept (z : Tick) : (acceptCrossing z s).rq.Kept := by
  unfold acceptCrossing
  extract_lets interval _ t u
  have accepted : t.rq.Kept := h
  have counted : u.rq.Kept := by
    simp only [u]
    split
    · exact countStable_queueKept accepted _
    · exact accepted
  split
  · exact timeCommutation_queueKept counted z
  · exact counted

theorem floatingCode_queueKept (p : Word) (t : Tick) (v : Int) : (floatingCode p t v s).rq.Kept := by
  unfold floatingCode examineCode
  split
  · split
    · extract_lets first _ u
      have counted : u.rq.Kept := h
      split
      · exact acceptCrossing_queueKept counted _
      · exact counted
    · simpa using h
  · exact h

theorem advanceRamp_queueKept : (advanceRamp s).rq.Kept := by
  have advanced : ∀ x, (s.withPump x).rq.Kept := fun _ => h
  unfold advanceRamp
  split
  · exact h
  · simp only
    split
    · exact advanced _
    · split
      · exact advanced _
      · exact enterPumpSafe_queueKept h _

theorem rampCommutation_queueKept : (rampCommutation s).rq.Kept := by
  have commutated := commutate_queueKept h .ramp none
  unfold rampCommutation
  simp only
  split
  · exact advanceRamp_queueKept commutated
  · exact advanceRamp_queueKept (by exact commutated)

theorem zcMissNotice_queueKept (first : Bool) (i : Fin 6) : (zcMissNotice first i s).rq.Kept := by
  unfold zcMissNotice
  split
  · exact joinNotice_queueKept h _
  · exact h

theorem takeTimeout_queueKept (d : Tick) : (takeTimeout d s).rq.Kept := by
  have counted : ∀ x, (s.withComm x).rq.Kept := fun _ => h
  unfold takeTimeout
  simp only
  split
  · exact zcMissNotice_queueKept (commutate_queueKept (counted _) _ _) _ _
  · exact enterPumpSafe_queueKept (zcMissNotice_queueKept (counted _) _ _) _

theorem alignAtPeak_queueKept : (alignAtPeak s).rq.Kept := by
  unfold alignAtPeak
  split
  · exact enterRamp_queueKept h
  · exact h

end

/-- Two effects at the motors' state controls, whichever goes first. -/
theorem bothMotors_queueKept {onDrum onPump : State → State} (drum : ∀ s, s.rq.Kept → (onDrum s).rq.Kept)
    (pump : ∀ s, s.rq.Kept → (onPump s).rq.Kept) (first : Motor) {s : State} (h : s.rq.Kept) :
    (bothMotors first onDrum onPump s).rq.Kept := by
  cases first with
  | drum => exact pump _ (drum s h)
  | pump => exact drum _ (pump s h)

/-! ### The reconstructor and the scheduler -/

section
variable {s : State} (h : s.rq.Kept)
include h

theorem busHighCheck_queueKept (p : Word) (v : Nat) : (busHighCheck p v s).rq.Kept := by
  have counted : ∀ x, (s.withRecon x).rq.Kept := fun _ => h
  unfold busHighCheck
  simp only
  split
  · split
    · exact joinNotice_queueKept (counted _) _
    · exact counted _
  · exact counted _

theorem overTempCheck_queueKept (first : Motor) (v : Nat) : (overTempCheck first v s).rq.Kept := by
  have counted : ∀ x, (s.withRecon x).rq.Kept := fun _ => h
  unfold overTempCheck
  simp only
  split
  · split
    · exact bothMotors_queueKept (fun _ => drumOverTemp_queueKept) (fun _ => pumpOverTemp_queueKept) first (counted _)
    · exact counted _
  · exact counted _

theorem reportPeriod_queueKept (e : PeriodEntry) (fresh : Bool) : (reportPeriod e fresh s).rq.Kept := by
  unfold reportPeriod
  split
  · exact joinRecord_queueKept h _
  · exact h

theorem blindNotice_queueKept (e : PeriodEntry) (sixteenth : Bool) : (blindNotice e sixteenth s).rq.Kept := by
  unfold blindNotice
  split
  · exact joinNotice_queueKept h _
  · exact h

theorem closePeriod_queueKept (e : PeriodEntry) : (closePeriod e s).rq.Kept := by
  have reported : ∀ x fresh, (reportPeriod e fresh (s.withRecon x)).rq.Kept := fun _ _ =>
    reportPeriod_queueKept (by exact h) e _
  unfold closePeriod
  split
  · exact reported _ true
  · exact blindNotice_queueKept (reported _ false) _ _

theorem closeEnding_queueKept (e : Option PeriodEntry) : (closeEnding e s).rq.Kept := by
  cases e with
  | none => exact h
  | some e => exact closePeriod_queueKept h e

theorem closeHouse_queueKept : (closeHouse s).rq.Kept := by
  unfold closeHouse
  split
  · exact h
  · exact joinRecord_queueKept (by exact h) _

theorem deliver_queueKept (first : Motor) (o : ConversionOutcome) : (deliver first o s).rq.Kept := by
  have counted : (countLost o s).rq.Kept := by simpa using h
  have filed : (fileOutcome o (countLost o s)).rq.Kept := by simpa using h
  unfold deliver
  simp only
  split
  · unfold deliverDrum
    simp only
    split
    · exact drumCalibrationCode_queueKept filed _ _
    · exact filed
  · unfold deliverPump
    split
    · exact pumpShuntCode_queueKept counted _ _ _ _
    · exact floatingCode_queueKept counted _ _ _
    · simpa using counted
    · exact counted
  · unfold deliverHouse
    simp only
    split
    · exact busHighCheck_queueKept (by exact filed) _ _
    · exact overTempCheck_queueKept filed first _
    · exact filed

theorem finishConversion_queueKept (c : Conversion) (raw : Code) (first : Motor) :
    (finishConversion c raw first s).rq.Kept := deliver_queueKept (by exact h) first _

end

end Sys2Proof.Machine
end

section
/-! PROOFS. The Record Queue (R157, R158), continued: the period starts, the frames and every other command, and the law of
the queue through every step. -/

namespace Sys2Proof.Machine

/-! ### The period starts -/

section
variable {s : State} (h : s.rq.Kept)
include h

theorem takePermit_queueKept (sample : Bool) (first : Motor) : (takePermit sample first s).rq.Kept := by
  unfold takePermit permitChanged
  simp only
  split
  · exact h
  · split
    · simpa using h
    · exact bothMotors_queueKept (fun _ => drumPermitLost_queueKept) (fun _ => pumpPermitLost_queueKept) first
        (by simpa using h)

theorem takeStop_queueKept : (takeStop s).rq.Kept := by
  unfold takeStop
  split
  · exact changeDrum_queueKept h _
  · exact h

theorem enterRun_queueKept : (enterRun s).rq.Kept := by
  unfold enterRun
  split
  · split
    · exact changeDrum_queueKept (by exact h) _
    · exact enterDrumSafe_queueKept h _
  · exact h

theorem calibrateDrum_queueKept : (calibrateDrum s).rq.Kept := by
  unfold calibrateDrum
  split
  · split
    · exact enterDrumSafe_queueKept h _
    · simpa using h
  · exact h

end

/-- Every part of a drum period start but the close keeps the law, an OVERCURRENT there or not. -/
theorem queueKept_byPeriodStart : KeptByPeriodStart fun _ t => t.rq.Kept where
  permit sample first _ _ h := takePermit_queueKept h sample first
  stop _ _ := takeStop_queueKept
  run _ _ := enterRun_queueKept
  openHouse _ _ h := by simpa using h
  house _ _ h := by simpa using h
  plan _ _ h := by simpa using h
  calibrate _ _ := calibrateDrum_queueKept
  trip _ _ := drumOvercurrent_queueKept

section
variable {s : State} (h : s.rq.Kept)
include h

theorem drumPeriodStart_queueKept (permit : Bool) (o : PeriodOrder) : (drumPeriodStart permit o s).rq.Kept := by
  have begun : (beginDrumPeriod s).rq.Kept := by simpa using h
  have closing := queueKept_byPeriodStart.upToClose permit o (b := false) begun
  have closed : (upToClosed permit o s).rq.Kept := closeHouse_queueKept (closeEnding_queueKept closing _)
  exact queueKept_byPeriodStart.afterClosed permit o (b := false) closed

theorem calibratePump_queueKept (b : Bool) : (calibratePump b s).rq.Kept := by
  unfold calibratePump
  split
  · exact enterPumpSafe_queueKept (by simpa using h) _
  · simpa using h

theorem openPumpPeriod_queueKept (b : Bool) : (openPumpPeriod b s).rq.Kept := by
  unfold openPumpPeriod
  extract_lets t
  have marked : t.rq.Kept := by simpa [t] using h
  split
  · simpa using marked
  · split
    · exact calibratePump_queueKept marked b
    · exact marked

theorem countMiss_queueKept : (countMiss s).rq.Kept := by
  unfold countMiss
  extract_lets first _ t
  have noticed : t.rq.Kept := by
    simp only [t, lateNotice]
    split
    · exact joinNotice_queueKept (by exact h) _
    · exact h
  split
  · simpa using noticed
  · exact enterDrumSafe_queueKept noticed _

theorem planAtPoint_queueKept : (planAtPoint s).rq.Kept := by
  unfold planAtPoint
  split
  case h_1 | h_2 => simpa using h
  case h_3 => exact countMiss_queueKept h
  case h_4 => exact h

/-! ### The frame that carries the record in transit (R159) -/

/-- A record is in transit only where the queue holds one. -/
theorem beginFrame_queueKept : (beginFrame s).rq.Kept where
  capacity := h.capacity
  lost := h.lost
  transit sent empty := by simp [beginFrame, show s.rq.records = [] from empty] at sent

theorem sentWhole_queueKept (fr : FrameInProgress) : (sentWhole fr s).rq.Kept := by
  refine h.of_sublist ?_ le_rfl rfl
  change (if s.rq.inTransit then s.rq.records.tail else s.rq.records).Sublist s.rq.records
  split
  · exact List.tail_sublist _
  · exact .refl _

theorem sentShort_queueKept (bits : Nat) : (sentShort bits s).rq.Kept := h.of_sublist (.refl _) le_rfl rfl

theorem atCompletion_queueKept {f : FrameInProgress → State → State}
    (hf : ∀ fr s, s.rq.Kept → (f fr s).rq.Kept) : (atCompletion f s).rq.Kept := by
  unfold atCompletion
  split
  · split
    · exact hf _ s h
    · split
      · exact h
      · split
        · exact hf _ _ (beginFrame_queueKept h)
        · exact h
  · exact h

theorem decideFrame_queueKept {b : Body} (hb : ∀ s, s.rq.Kept → (b s).1.rq.Kept) : (decideFrame b s).rq.Kept :=
  atCompletion_queueKept h fun fr t ht => by
    have acted := hb (endBreakRun (sentWhole fr t)) (sentWhole_queueKept ht fr)
    simpa [runBody] using acted

theorem shortFrame_queueKept (bits : Nat) : (shortFrame bits s).rq.Kept :=
  atCompletion_queueKept h fun _ _ ht => by
    have ended := sentShort_queueKept ht bits
    simpa [endBreakRun] using ended

theorem linkBreak_queueKept (first : Motor) : (linkBreak first s).rq.Kept :=
  bothMotors_queueKept (fun _ => drumLinkBreak_queueKept) (fun _ => pumpLinkBreak_queueKept) first
    (joinNotice_queueKept (by exact h) _)

theorem breakFrame_queueKept (first : Motor) : (breakFrame first s).rq.Kept :=
  atCompletion_queueKept h fun fr t ht => by
    extract_lets u _ v
    have counted : v.rq.Kept := sentWhole_queueKept ht fr
    split
    · simpa using linkBreak_queueKept counted first
    · simpa using counted

/-! ### What the frames do -/

/-- A frame's body keeps the law where the link is READY, and a frame refused elsewhere changes nothing (R151). -/
theorem readyFrame_queueKept {b : Body} (hb : ∀ s, s.rq.Kept → (b s).1.rq.Kept) :
    (decideFrame (whenReady b) s).rq.Kept :=
  decideFrame_queueKept h fun t ht => by
    unfold whenReady
    split
    · exact hb t ht
    · exact ht

theorem checkErrorBody_queueKept : (checkErrorBody s).1.rq.Kept := by
  unfold checkErrorBody
  simp only
  split
  · exact joinNotice_queueKept (by simpa using h) _
  · simpa using h

theorem setupBody_queueKept (f : SetupFields) (permit : Bool) : (setupBody f permit s).1.rq.Kept := by
  have opened : (acceptSetup f permit s).rq.Kept := by
    have permitted := takePermit_queueKept (s := setUp f s) h permit .drum
    rw [acceptSetup_eq]
    exact openPumpPeriod_queueKept (by simpa using permitted) false
  unfold setupBody
  split
  · exact h
  · exact opened

theorem clearLinkCounters_queueKept : (clearLinkCounters s).rq.Kept where
  capacity := h.capacity
  lost := Nat.zero_le _
  transit := h.transit

theorem takeIf_queueKept {f : State → State} (hf : (f s).rq.Kept) (b : Bool) : (takeIf b f s).rq.Kept := by
  cases b with
  | true => exact hf
  | false => exact h

theorem queryTableBody_queueKept (id row : BitVec 4) : (queryTableBody id row s).1.rq.Kept := by
  unfold queryTableBody
  split
  · exact joinRecord_queueKept h _
  · exact h

theorem acceptStartDrum_queueKept : (acceptStartDrum s).rq.Kept := by
  unfold acceptStartDrum
  simp only
  split <;> exact changeDrum_queueKept (by exact h) _

theorem startDrumBody_queueKept : (startDrumBody s).1.rq.Kept := by
  unfold startDrumBody
  repeat' split
  case isFalse.isFalse.isFalse.isFalse => exact acceptStartDrum_queueKept h
  all_goals exact h

theorem acceptStartPump_queueKept : (acceptStartPump s).rq.Kept := by
  unfold acceptStartPump
  simp only
  split
  · exact enterPumpOffset_queueKept (by exact h)
  · exact enterAlign_queueKept (by exact h)

theorem startPumpBody_queueKept : (startPumpBody s).1.rq.Kept := by
  unfold startPumpBody
  repeat' split
  case isFalse.isFalse.isFalse.isFalse.isFalse => exact acceptStartPump_queueKept h
  all_goals exact h

theorem stopCoastDrumBody_queueKept : (stopCoastDrumBody s).1.rq.Kept := by
  unfold stopCoastDrumBody
  split
  case h_1 | h_4 | h_6 => exact h
  all_goals exact changeDrum_queueKept h _

theorem stopBrakeDrumBody_queueKept : (stopBrakeDrumBody s).1.rq.Kept := by
  unfold stopBrakeDrumBody
  split
  case h_1 | h_4 | h_5 | h_6 => exact h
  all_goals exact changeDrum_queueKept h _

theorem stopCoastPumpBody_queueKept : (stopCoastPumpBody s).1.rq.Kept := by
  unfold stopCoastPumpBody
  split
  case h_1 | h_6 => exact h
  all_goals exact pumpOff_queueKept h

theorem clearDrumBody_queueKept : (clearDrumBody s).1.rq.Kept := by
  unfold clearDrumBody
  repeat' split
  case isFalse.isFalse.isFalse => exact changeDrum_queueKept (by exact h) _
  all_goals exact h

theorem clearPumpBody_queueKept : (clearPumpBody s).1.rq.Kept := by
  unfold clearPumpBody
  repeat' split
  case isFalse.isFalse.isFalse => exact pumpOff_queueKept (by exact h)
  all_goals exact h

end

/-! ### Frames that let no record join -/

theorem dutyBody_rq (d : PerPhase Word) (s : State) : (dutyBody d s).1.rq = s.rq := by
  have filled : (fillSlot d s).rq = s.rq := by rw [fillSlot_eq]
  unfold dutyBody
  split
  case h_1 | h_2 => exact filled
  all_goals rfl

theorem pumpBody_rq (direction : BitVec 2) (duty : Word) (s : State) : (pumpBody direction duty s).1.rq = s.rq := by
  unfold pumpBody
  split
  · unfold pumpDutyBody
    split
    case h_1 | h_2 => rfl
    all_goals split <;> rfl
  · rfl

theorem tableInputBody_rq (row : BitVec 4) (source : BitVec 2) (input : BitVec 4) (offset trip : Word) (s : State) :
    (tableInputBody row source input offset trip s).1.rq = s.rq := by
  unfold tableInputBody
  split
  · split
    · simp only [writeInputRow]
      split <;> simp
    · rfl
  · rfl

theorem tableCommutationBody_rq (row : BitVec 4) (high low floating polarity : BitVec 2) (s : State) :
    (tableCommutationBody row high low floating polarity s).1.rq = s.rq := by
  unfold tableCommutationBody
  repeat' split
  all_goals rfl

theorem tableProfileBody_rq (f : ProfileFields) (s : State) : (tableProfileBody f s).1.rq = s.rq := by
  unfold tableProfileBody
  repeat' split
  all_goals rfl

theorem tableRampBody_rq (row : BitVec 4) (interval : BitVec 24) (repeats : BitVec 8) (duty : Word) (s : State) :
    (tableRampBody row interval repeats duty s).1.rq = s.rq := by
  unfold tableRampBody
  repeat' split
  all_goals rfl

theorem tableRampLengthBody_rq (length : BitVec 5) (s : State) : (tableRampLengthBody length s).1.rq = s.rq := by
  unfold tableRampLengthBody
  split <;> rfl

theorem dryBody_rq (m : Motor) (b : Bool) (s : State) : (dryBody m b s).1.rq = s.rq := by
  unfold dryBody
  split
  · cases m <;> simp [setDry]
  · rfl

theorem setReport_rq (m : Motor) (b : Bool) (s : State) : (setReport m b s).rq = s.rq := by
  cases m <;> rfl

/-! ### Events -/

theorem moveFaultLine_rq (m : Motor) (active : Bool) (s : State) : (moveFaultLine m active s).rq = s.rq := by
  cases m <;> simp [moveFaultLine]

/-- A reset leaves the queue empty (R155). -/
theorem resetPart_queueKept (cause : ResetCause) (s : State) : (resetPart cause s).rq.Kept :=
  ⟨Nat.zero_le _, Nat.zero_le _, nofun⟩

theorem gateFault_queueKept (m : Motor) {s : State} (h : s.rq.Kept) : (gateFault m s).rq.Kept := by
  cases m with
  | drum => exact drumGateFault_queueKept h
  | pump => exact pumpGateFault_queueKept h

theorem frameBegin_queueKept {s : State} (h : s.rq.Kept) :
    (if s.link.selected then s
     else if s.link.resetN then beginFrame s
     else s.withLink { s.link with selected := true }).rq.Kept := by
  split
  · exact h
  · split
    · exact beginFrame_queueKept h
    · exact h

theorem passIdle_rq (s : State) : (passIdle s).rq = s.rq := by
  have ticks : ∀ t : State, (tick t).rq = t.rq := fun t => by
    unfold tick
    split <;> rfl
  unfold passIdle
  split
  · exact ticks s
  · split
    · simp [drawFree]
    · exact ticks (drawFree s)

/-! ### Every command, and every step -/

theorem exec_queueKept {c : Instr} {s t : State} (h : s.rq.Kept) (he : exec c s = .next t) : t.rq.Kept := by
  have frame : ∀ {b : Body}, (∀ s, s.rq.Kept → (b s).1.rq.Kept) → (decideFrame b s).rq.Kept := decideFrame_queueKept h
  have ready : ∀ {b : Body}, (∀ s, s.rq.Kept → (b s).1.rq.Kept) → (decideFrame (whenReady b) s).rq.Kept :=
    readyFrame_queueKept h
  have readyStill : ∀ {b : Body}, (∀ s, (b s).1.rq = s.rq) → (decideFrame (whenReady b) s).rq.Kept := fun same =>
    ready fun u hu => same u ▸ hu
  have event : ∀ {b : Bool} {u : State}, u.rq.Kept → (if b then u else s).rq.Kept := by
    intro b u hu
    cases b with
    | true => exact hu
    | false => exact h
  have goes : ∃ u, exec c s = .next u ∧ u.rq.Kept := by
    cases c with
    | powerReset =>
      refine ⟨_, rfl, ?_⟩
      have fresh := resetPart_queueKept .power s
      split
      · exact joinNotice_queueKept fresh _
      · exact fresh
    | pinReset => exact ⟨_, rfl, resetPart_queueKept .pin s⟩
    | pinResetRelease =>
      refine ⟨_, rfl, ?_⟩
      split
      · exact h
      · exact joinNotice_queueKept (by exact h) _
    | frameBegin => exact ⟨_, rfl, frameBegin_queueKept h⟩
    | shortFrame bits => exact ⟨_, rfl, shortFrame_queueKept h bits⟩
    | breakFrame first => exact ⟨_, rfl, breakFrame_queueKept h first⟩
    | checkError => exact ⟨_, rfl, frame fun _ => checkErrorBody_queueKept⟩
    | unknownKind | fill | queryUnknownPage => exact ⟨_, rfl, frame fun _ => id⟩
    | controlUnknownCode | tableUnknownId | stopBrakePump => exact ⟨_, rfl, readyStill fun _ => rfl⟩
    | setup f permit => exact ⟨_, rfl, frame fun _ hu => setupBody_queueKept hu f permit⟩
    | duty d => exact ⟨_, rfl, readyStill (dutyBody_rq d)⟩
    | pump direction duty => exact ⟨_, rfl, readyStill (pumpBody_rq direction duty)⟩
    | rate half pumpHalf => exact ⟨_, rfl, readyStill fun _ => rfl⟩
    | tableInput row source input offset trip =>
      exact ⟨_, rfl, readyStill (tableInputBody_rq row source input offset trip)⟩
    | tableCommutation row high low floating polarity =>
      exact ⟨_, rfl, readyStill (tableCommutationBody_rq row high low floating polarity)⟩
    | tableProfile f => exact ⟨_, rfl, readyStill (tableProfileBody_rq f)⟩
    | tableRamp row interval repeats duty => exact ⟨_, rfl, readyStill (tableRampBody_rq row interval repeats duty)⟩
    | tableRampLength length => exact ⟨_, rfl, readyStill (tableRampLengthBody_rq length)⟩
    | queryLink clear =>
      exact ⟨_, rfl, frame fun _ hu =>
        joinRecord_queueKept (takeIf_queueKept hu (clearLinkCounters_queueKept hu) clear) _⟩
    | queryDrum clear =>
      exact ⟨_, rfl, frame fun _ hu => joinRecord_queueKept (takeIf_queueKept hu (f := clearLostDrum) hu clear) _⟩
    | queryPump clear =>
      exact ⟨_, rfl, frame fun _ hu => joinRecord_queueKept (takeIf_queueKept hu (f := clearLostPump) hu clear) _⟩
    | queryDrumSnap | queryPumpSnap | queryPumpRingA | queryPumpRingB =>
      exact ⟨_, rfl, frame fun _ hu => joinRecord_queueKept (by exact hu) _⟩
    | queryTable clear id row => exact ⟨_, rfl, frame fun _ hu => queryTableBody_queueKept hu id row⟩
    | startDrum => exact ⟨_, rfl, ready fun _ => startDrumBody_queueKept⟩
    | startPump => exact ⟨_, rfl, ready fun _ => startPumpBody_queueKept⟩
    | stopCoastDrum => exact ⟨_, rfl, ready fun _ => stopCoastDrumBody_queueKept⟩
    | stopBrakeDrum => exact ⟨_, rfl, ready fun _ => stopBrakeDrumBody_queueKept⟩
    | stopCoastPump => exact ⟨_, rfl, ready fun _ => stopCoastPumpBody_queueKept⟩
    | clearDrum => exact ⟨_, rfl, ready fun _ => clearDrumBody_queueKept⟩
    | clearPump => exact ⟨_, rfl, ready fun _ => clearPumpBody_queueKept⟩
    | dryOn m => exact ⟨_, rfl, readyStill (dryBody_rq m true)⟩
    | dryOff m => exact ⟨_, rfl, readyStill (dryBody_rq m false)⟩
    | reportOn m => exact ⟨_, rfl, readyStill (setReport_rq m true)⟩
    | reportOff m => exact ⟨_, rfl, readyStill (setReport_rq m false)⟩
    | clearFlags => exact ⟨_, rfl, readyStill fun _ => rfl⟩
    | reset => exact ⟨_, rfl, ready fun u _ => joinNotice_queueKept (resetPart_queueKept .command u) _⟩
    | faultLineFall m =>
      refine ⟨_, rfl, ?_⟩
      split
      · exact h
      · exact gateFault_queueKept m (moveFaultLine_rq m true s ▸ h)
    | faultLineRise m => exact ⟨_, rfl, event (moveFaultLine_rq m false s ▸ h)⟩
    | enableTimeReached m x => exact ⟨_, rfl, event (by simpa using h)⟩
    | drumPeriodStart permit o => exact ⟨_, rfl, event (drumPeriodStart_queueKept h permit o)⟩
    | planPoint => exact ⟨_, rfl, event (planAtPoint_queueKept (by exact h))⟩
    | planEdge x =>
      refine ⟨_, rfl, ?_⟩
      split
      · simpa using h
      · exact h
    | pumpPeriodStart b => exact ⟨_, rfl, event (openPumpPeriod_queueKept (by exact h) b)⟩
    | pumpPeak => exact ⟨_, rfl, event (alignAtPeak_queueKept (by exact h))⟩
    | pumpSpanEdge => exact ⟨_, rfl, event (by simpa using h)⟩
    | conversionStart =>
      refine ⟨_, rfl, ?_⟩
      split <;> exact h
    | conversionDone code first =>
      refine ⟨_, rfl, ?_⟩
      split
      · exact finishConversion_queueKept h _ code first
      · exact h
    | requestExpiry =>
      refine ⟨_, rfl, ?_⟩
      split
      · simpa using h
      · exact h
    | dueCommutation => exact ⟨_, rfl, event (commutate_queueKept h _ _)⟩
    | zcTimeout =>
      refine ⟨_, rfl, ?_⟩
      split
      · exact takeTimeout_queueKept h _
      · exact h
    | rampCommutation => exact ⟨_, rfl, event (rampCommutation_queueKept h)⟩
  obtain ⟨u, hu, kept⟩ := goes
  rw [hu] at he
  cases he
  exact kept

theorem step_queueKept {s t : State} (h : s.rq.Kept) (hs : step s = .next t) : t.rq.Kept := by
  unfold step idle at hs
  split at hs
  · exact exec_queueKept (by exact h) hs
  · split at hs
    · exact exec_queueKept (by exact h) hs
    · cases hs
      exact passIdle_rq s ▸ h

/-- Settles O58: the joining record by the room in the queue, and the law of the queue through every step. -/
theorem recordQueueLaw : Obligations.RecordQueueLaw := by
  unfold Obligations.RecordQueueLaw
  refine ⟨fun r s => ⟨joinRecord_of_room r, fun head second rest held full => ⟨?_, joinRecord_length_of_full r full⟩⟩,
    fun s t h hs => (recordsKept_iff t).2 (step_queueKept ((recordsKept_iff s).1 h) hs)⟩
  rw [joinRecord_of_full r full, displaceOldest_of_two held]
  cases s.rq.inTransit <;> rfl

end Sys2Proof.Machine
end

section
/-! PROOFS. The QUERY frames (R164 to R166): the page, its clearing, and the STATUS record that joins. -/

namespace Sys2Proof.Machine

/-! ### The reply (R164) -/

/-- A query that is answered: its page is composed on the state that has sent its upstream frame, and the STATUS record
joins the state that its clearing leaves (R159, R164). -/
theorem decideFrame_of_answered {s : State} {fr : FrameInProgress} (receiving : Receiving s fr) {b : Body}
    {page : StatusPage} {clearing : State → State} {t : State}
    (answers : b (endBreakRun (sentWhole fr s)) = answerQuery page clearing (endBreakRun (sentWhole fr s)))
    (cleared : setResult .ok (clearing (endBreakRun (sentWhole fr s))) = t) :
    decideFrame b s = joinRecord (.status page) t := by
  rw [decideFrame_receiving receiving, runBody, answers, answerQuery, setResult_joinRecord, cleared]

/-- The clear flag of a query decides whether the page's counters are set to 0 (R164). -/
theorem setResult_takeIf {r : Result} {clearing : State → State} {u t w : State} (kept : setResult r u = t)
    (cleared : setResult r (clearing u) = w) (clear : Bool) :
    setResult r (takeIf clear clearing u) = if clear then w else t := by
  cases clear with
  | true => exact cleared
  | false => exact kept

theorem setResult_clearLinkCounters (r : Result) (fr : FrameInProgress) (s : State) :
    setResult r (clearLinkCounters (endBreakRun (sentWhole fr s))) =
      { answered fr r s with
        link := { (answered fr r s).link with checkErrors := 0, lengthErrors := 0 }
        rq := { (answered fr r s).rq with lost := 0 } } := by
  rw [setResult_eq, endBreakRun_sentWhole]
  rfl

theorem setResult_withDrum (r : Result) (fr : FrameInProgress) (d : DrumControl) (s : State) :
    setResult r ((endBreakRun (sentWhole fr s)).withDrum d) = { answered fr r s with drum := d } := by
  rw [setResult_eq, endBreakRun_sentWhole]
  rfl

/-! ### The TABLE page (R164, R165; log 17) -/

theorem queryTableBody_of_some {id row : BitVec 4} {s : State} {c : TableContent} (h : tableContent id row s = some c) :
    queryTableBody id row s = answerQuery (.table id row c) (fun t => t) s := by
  simp [queryTableBody, h]

theorem queryTableBody_of_none {id row : BitVec 4} {s : State} (h : tableContent id row s = none) :
    queryTableBody id row s = (s, .badArgument) := by
  simp [queryTableBody, h]

section
variable {row : BitVec 4} (s : State)

theorem tableContent_commutation {i : Fin 6} (h : row.toNat = i.val) :
    tableContent 1 row s = some (.commutation s.comm.table[i]) := by
  simp [tableContent, rowOf_eq_some h]

theorem tableContent_ramp {i : Fin 16} (h : row.toNat = i.val) :
    tableContent 2 row s = some (.ramp s.pump.ramp[i]) := by
  simp [tableContent, rowOf_eq_some h]

theorem tableContent_input {i : Fin 8} (h : row.toNat = i.val) :
    tableContent 4 row s = some (.input s.sched.table[i]) := by
  simp [tableContent, rowOf_eq_some h]

/-- An id that names no table, or a row outside the table. -/
theorem tableContent_of_unknown {id : BitVec 4}
    (h : id = 0 ∨ 6 ≤ id.toNat ∨ (id = 1 ∧ 6 ≤ row.toNat) ∨ (id = 4 ∧ 8 ≤ row.toNat)) :
    tableContent id row s = none := by
  rcases h with rfl | high | ⟨rfl, outside⟩ | ⟨rfl, outside⟩
  · rfl
  · unfold tableContent
    split
    case h_6 => rfl
    all_goals omega
  · simp [tableContent, rowOf, Nat.not_lt.2 outside]
  · simp [tableContent, rowOf, Nat.not_lt.2 outside]

end

/-- Settles O59: each page as composed on the state that has sent its upstream frame, and what its clearing leaves. -/
theorem queriesAnswerWithPages : Obligations.QueriesAnswerWithPages := by
  unfold Obligations.QueriesAnswerWithPages
  intro clear s fr receiving u
  have still : setResult .ok (endBreakRun (sentWhole fr s)) = u := setResult_sentWhole .ok fr s
  refine ⟨?_, ?_, ?_, ?_, ?_, ?_, ?_, fun id row => ?_⟩
  · exact next_congr (decideFrame_of_answered receiving rfl
      (setResult_takeIf still (setResult_clearLinkCounters .ok fr s) clear))
  · exact next_congr (decideFrame_of_answered receiving rfl
      (setResult_takeIf still (setResult_withSched .ok fr _ s) clear))
  · exact next_congr (decideFrame_of_answered receiving rfl
      (setResult_takeIf still (setResult_withSched .ok fr _ s) clear))
  · exact next_congr (decideFrame_of_answered receiving rfl (setResult_withDrum .ok fr _ s))
  · exact next_congr (decideFrame_of_answered receiving rfl (setResult_withPump .ok fr _ s))
  · exact next_congr (decideFrame_of_answered receiving rfl still)
  · exact next_congr (decideFrame_of_answered receiving rfl still)
  · have shown : ∀ {c}, tableContent id row (endBreakRun (sentWhole fr s)) = some c →
        exec (.queryTable clear id row) s = .next (joinRecord (.status (.table id row c)) u) := fun content =>
      next_congr (decideFrame_of_answered receiving (queryTableBody_of_some content) still)
    refine ⟨fun i named at_ => ?_, fun i named at_ => ?_, fun named => ?_, fun i named at_ => ?_, fun named => ?_,
      fun unknown => ?_⟩
    · subst named
      exact shown (tableContent_commutation _ at_)
    · subst named
      exact shown (tableContent_ramp _ at_)
    · subst named
      exact shown rfl
    · subst named
      exact shown (tableContent_input _ at_)
    · subst named
      exact shown rfl
    · exact next_congr (decideFrame_of_still receiving (queryTableBody_of_none (tableContent_of_unknown _ unknown)))

end Sys2Proof.Machine
end

section
/-! PROOFS. The step and the queue of commands: the front command runs (log 1), and every command is answered by a next
state that leaves the model's own parts, the queue of commands and the counter of free values (log 1, 4, 19, 20). -/

namespace Sys2Proof.Machine

/-- Settles O1: the first case of `step`. -/
theorem stepRunsFrontCommand : Obligations.StepRunsFrontCommand := by
  unfold Obligations.StepRunsFrontCommand
  intro c rest s front
  unfold step
  rw [front]
  rfl

/-! ### The parts that are the model's own -/

/-- The queue of commands and the counter of free values stay as they were. -/
structure OwnKept (s t : State) : Prop where
  pending : t.pending = s.pending
  freeCount : t.freeCount = s.freeCount

theorem OwnKept.refl (s : State) : OwnKept s s := ⟨rfl, rfl⟩

theorem OwnKept.trans {s t u : State} (first : OwnKept s t) (second : OwnKept t u) : OwnKept s u :=
  ⟨second.pending.trans first.pending, second.freeCount.trans first.freeCount⟩

/-- An event that is taken only when it is due (log 3). -/
theorem OwnKept.ifDue {s u : State} (h : OwnKept s u) (due : Bool) : OwnKept s (if due then u else s) := by
  cases due with
  | true => exact h
  | false => exact .refl s

/-! ### Frames -/

theorem beginFrame_ownKept (s : State) : OwnKept s (beginFrame s) := ⟨rfl, rfl⟩

/-- A completion keeps the model's own parts when the completed frame does (R146, R156). -/
theorem atCompletion_ownKept {f : FrameInProgress → State → State} (hf : ∀ fr s, OwnKept s (f fr s)) (s : State) :
    OwnKept s (atCompletion f s) := by
  unfold atCompletion
  split
  case isFalse => exact ⟨rfl, rfl⟩
  case isTrue =>
    split
    · exact hf _ s
    · split
      · exact ⟨rfl, rfl⟩
      · split
        · exact (beginFrame_ownKept s).trans (hf _ _)
        · exact .refl s

theorem decideFrame_ownKept {b : Body} (hb : ∀ s, OwnKept s (b s).1) (s : State) : OwnKept s (decideFrame b s) :=
  atCompletion_ownKept (fun fr t =>
    have sent : OwnKept t (endBreakRun (sentWhole fr t)) := ⟨rfl, rfl⟩
    (sent.trans (hb _)).trans ⟨by simp [runBody], by simp [runBody]⟩) s

/-- A frame that needs READY (R151). -/
theorem readyFrame_ownKept {b : Body} (hb : ∀ s, OwnKept s (b s).1) (s : State) :
    OwnKept s (decideFrame (whenReady b) s) :=
  decideFrame_ownKept (fun t => by
    unfold whenReady
    split
    · exact hb t
    · exact .refl t) s

theorem shortFrame_ownKept (bits : Nat) (s : State) : OwnKept s (shortFrame bits s) :=
  atCompletion_ownKept (fun _ t =>
    have ended : OwnKept t (endBreakRun (sentShort bits t)) := ⟨rfl, rfl⟩
    ended.trans ⟨by simp, by simp⟩) s

theorem linkBreak_ownKept (first : Motor) (s : State) : OwnKept s (linkBreak first s) := by
  cases first <;> exact ⟨by simp [linkBreak, bothMotors], by simp [linkBreak, bothMotors]⟩

theorem breakFrame_ownKept (first : Motor) (s : State) : OwnKept s (breakFrame first s) :=
  atCompletion_ownKept (fun fr t => by
    have counted : OwnKept t ((sentWhole fr t).withLink
        { (sentWhole fr t).link with breakRun := runUp 2 (sentWhole fr t).link.breakRun }) := ⟨rfl, rfl⟩
    have answered : ∀ u, OwnKept u (setResult .broke u) := fun u => ⟨by simp, by simp⟩
    simp only
    split
    · exact (counted.trans (linkBreak_ownKept first _)).trans (answered _)
    · exact counted.trans (answered _)) s

theorem checkErrorBody_ownKept (s : State) : OwnKept s (checkErrorBody s).1 := by
  unfold checkErrorBody
  simp only
  split <;> exact ⟨by simp, by simp⟩

/-! ### Resets and SETUP -/

theorem resetPart_ownKept (cause : ResetCause) (s : State) : OwnKept s (resetPart cause s) := ⟨rfl, rfl⟩

theorem joinResetNotice_ownKept (s : State) : OwnKept s (joinResetNotice s) :=
  ⟨by simp [joinResetNotice], by simp [joinResetNotice]⟩

/-- The RESET notice joins the queue of the part that was reset (R156, R157). -/
theorem resetNoticed_ownKept (cause : ResetCause) (s : State) : OwnKept s (joinResetNotice (resetPart cause s)) :=
  (resetPart_ownKept cause s).trans (joinResetNotice_ownKept _)

theorem acceptSetup_ownKept (f : SetupFields) (permit : Bool) (s : State) : OwnKept s (acceptSetup f permit s) :=
  have stored : OwnKept s (setUp f s) := ⟨rfl, rfl⟩
  stored.trans ⟨by simp [acceptSetup, openFirstPeriods, setUp], by simp [acceptSetup, openFirstPeriods, setUp]⟩

theorem setupBody_ownKept (f : SetupFields) (permit : Bool) (s : State) : OwnKept s (setupBody f permit s).1 := by
  unfold setupBody
  split
  · exact .refl s
  · exact acceptSetup_ownKept f permit s

/-! ### Frames with values and tables -/

theorem fillSlot_ownKept (d : PerPhase Word) (s : State) : OwnKept s (fillSlot d s) := by
  rw [fillSlot_eq]
  exact ⟨rfl, rfl⟩

theorem dutyBody_ownKept (d : PerPhase Word) (s : State) : OwnKept s (dutyBody d s).1 := by
  unfold dutyBody
  split
  case h_1 | h_2 => exact fillSlot_ownKept d s
  all_goals exact .refl s

theorem pumpDutyBody_ownKept (d : Direction) (duty : Word) (s : State) : OwnKept s (pumpDutyBody d duty s).1 := by
  unfold pumpDutyBody
  repeat' split
  all_goals exact ⟨rfl, rfl⟩

theorem pumpBody_ownKept (direction : BitVec 2) (duty : Word) (s : State) : OwnKept s (pumpBody direction duty s).1 := by
  unfold pumpBody
  split
  · exact pumpDutyBody_ownKept _ duty s
  · exact .refl s

theorem rateBody_ownKept (h hp : Word) (s : State) : OwnKept s (rateBody h hp s).1 := ⟨rfl, rfl⟩

theorem writeInputRow_ownKept (m : Measurand) (row : InputRow) (s : State) : OwnKept s (writeInputRow m row s) := by
  unfold writeInputRow
  simp only
  split <;> exact ⟨by simp, by simp⟩

theorem tableInputBody_ownKept (row : BitVec 4) (source : BitVec 2) (input : BitVec 4) (offset trip : Word) (s : State) :
    OwnKept s (tableInputBody row source input offset trip s).1 := by
  unfold tableInputBody
  split
  · split
    · exact writeInputRow_ownKept _ _ s
    · exact .refl s
  · exact .refl s

theorem tableCommutationBody_ownKept (row : BitVec 4) (high low floating polarity : BitVec 2) (s : State) :
    OwnKept s (tableCommutationBody row high low floating polarity s).1 := by
  unfold tableCommutationBody
  repeat' split
  all_goals exact ⟨rfl, rfl⟩

theorem tableProfileBody_ownKept (f : ProfileFields) (s : State) : OwnKept s (tableProfileBody f s).1 := by
  unfold tableProfileBody
  repeat' split
  all_goals exact ⟨rfl, rfl⟩

theorem tableRampBody_ownKept (row : BitVec 4) (interval : BitVec 24) (repeats : BitVec 8) (duty : Word) (s : State) :
    OwnKept s (tableRampBody row interval repeats duty s).1 := by
  unfold tableRampBody
  repeat' split
  all_goals exact ⟨rfl, rfl⟩

theorem tableRampLengthBody_ownKept (length : BitVec 5) (s : State) : OwnKept s (tableRampLengthBody length s).1 := by
  unfold tableRampLengthBody
  split <;> exact ⟨rfl, rfl⟩

/-! ### Queries -/

theorem takeIf_ownKept {f : State → State} (hf : ∀ s, OwnKept s (f s)) (b : Bool) (s : State) :
    OwnKept s (takeIf b f s) := (hf s).ifDue b

/-- A query keeps the model's own parts when the page's clearing does (R164). -/
theorem answerQuery_ownKept (page : State → StatusPage) {clearing : State → State} (h : ∀ s, OwnKept s (clearing s))
    (s : State) : OwnKept s (answerQuery (page s) clearing s).1 :=
  (h s).trans ⟨by simp [answerQuery], by simp [answerQuery]⟩

theorem queryTableBody_ownKept (id row : BitVec 4) (s : State) : OwnKept s (queryTableBody id row s).1 := by
  unfold queryTableBody
  split
  case h_1 c _ => exact answerQuery_ownKept (fun _ => .table id row c) .refl s
  case h_2 => exact .refl s

/-! ### Control frames -/

theorem acceptStartDrum_ownKept (s : State) : OwnKept s (acceptStartDrum s) := by
  have counters : OwnKept s (startDrumCounters s) := ⟨rfl, rfl⟩
  refine counters.trans ?_
  unfold acceptStartDrum
  simp only
  split <;> exact ⟨by simp, by simp⟩

theorem startDrumBody_ownKept (s : State) : OwnKept s (startDrumBody s).1 := by
  have started := acceptStartDrum_ownKept s
  unfold startDrumBody
  repeat' split
  case isFalse.isFalse.isFalse.isFalse => exact started
  all_goals exact .refl s

theorem acceptStartPump_ownKept (s : State) : OwnKept s (acceptStartPump s) := by
  have counters : OwnKept s (startPumpCounters s) := ⟨rfl, rfl⟩
  refine counters.trans ?_
  unfold acceptStartPump
  simp only
  split <;> exact ⟨by simp, by simp⟩

theorem startPumpBody_ownKept (s : State) : OwnKept s (startPumpBody s).1 := by
  have started := acceptStartPump_ownKept s
  unfold startPumpBody
  repeat' split
  case isFalse.isFalse.isFalse.isFalse.isFalse => exact started
  all_goals exact .refl s

theorem changeDrum_ownKept (st : DrumState) (s : State) : OwnKept s (changeDrum st s) := ⟨by simp, by simp⟩

theorem pumpOff_ownKept (s : State) : OwnKept s (pumpOff s) := ⟨by simp, by simp⟩

theorem setStopPending_ownKept (k : StopKind) (s : State) : OwnKept s (setStopPending k s) := ⟨rfl, rfl⟩

theorem stopCoastDrumBody_ownKept (s : State) : OwnKept s (stopCoastDrumBody s).1 := by
  unfold stopCoastDrumBody
  split
  case h_1 | h_6 => exact .refl s
  case h_4 => exact setStopPending_ownKept .coast s
  all_goals exact changeDrum_ownKept .off s

theorem stopBrakeDrumBody_ownKept (s : State) : OwnKept s (stopBrakeDrumBody s).1 := by
  unfold stopBrakeDrumBody
  split
  case h_1 | h_5 | h_6 => exact .refl s
  case h_4 => exact setStopPending_ownKept .brake s
  all_goals exact changeDrum_ownKept .off s

theorem stopCoastPumpBody_ownKept (s : State) : OwnKept s (stopCoastPumpBody s).1 := by
  unfold stopCoastPumpBody
  split
  case h_1 | h_6 => exact .refl s
  all_goals exact pumpOff_ownKept s

theorem clearDrumBody_ownKept (s : State) : OwnKept s (clearDrumBody s).1 := by
  have emptied : OwnKept s (s.withDrum { s.drum with cause := none }) := ⟨rfl, rfl⟩
  unfold clearDrumBody
  repeat' split
  case isFalse.isFalse.isFalse => exact emptied.trans (changeDrum_ownKept .off _)
  all_goals exact .refl s

theorem clearPumpBody_ownKept (s : State) : OwnKept s (clearPumpBody s).1 := by
  have emptied : OwnKept s (s.withPump { s.pump with cause := none }) := ⟨rfl, rfl⟩
  unfold clearPumpBody
  repeat' split
  case isFalse.isFalse.isFalse => exact emptied.trans (pumpOff_ownKept _)
  all_goals exact .refl s

theorem dryBody_ownKept (m : Motor) (b : Bool) (s : State) : OwnKept s (dryBody m b s).1 := by
  have written : OwnKept s (setDry m b s) := by cases m <;> exact ⟨by simp [setDry], by simp [setDry]⟩
  unfold dryBody
  split
  · exact written
  · exact .refl s

theorem setReport_ownKept (m : Motor) (b : Bool) (s : State) : OwnKept s (setReport m b s) := by
  cases m <;> exact ⟨rfl, rfl⟩

/-! ### Events -/

theorem moveFaultLine_ownKept (m : Motor) (active : Bool) (s : State) : OwnKept s (moveFaultLine m active s) := by
  cases m <;> exact ⟨by simp [moveFaultLine], by simp [moveFaultLine]⟩

theorem gateFault_ownKept (m : Motor) (s : State) : OwnKept s (gateFault m s) := by
  cases m <;> exact ⟨by simp [gateFault], by simp [gateFault]⟩

theorem faultLineFall_ownKept (m : Motor) (s : State) :
    OwnKept s (if faultActive m s then s else gateFault m (moveFaultLine m true s)) := by
  split
  · exact .refl s
  · exact (moveFaultLine_ownKept m true s).trans (gateFault_ownKept m _)

theorem frameBegin_ownKept (s : State) :
    OwnKept s
      (if s.link.selected then s
       else if s.link.resetN then beginFrame s
       else s.withLink { s.link with selected := true }) := by
  repeat' split
  all_goals exact ⟨rfl, rfl⟩

theorem lateNotice_ownKept (first : Bool) (s : State) : OwnKept s (lateNotice first s) := by
  cases first <;> exact ⟨by simp [lateNotice], by simp [lateNotice]⟩

theorem countMiss_ownKept (s : State) : OwnKept s (countMiss s) := by
  have counted : OwnKept s (s.withPlanner { s.planner with misses := s.planner.misses + 1 }) := ⟨rfl, rfl⟩
  refine (counted.trans (lateNotice_ownKept (decide (s.planner.misses = 0)) _)).trans ?_
  unfold countMiss
  simp only
  split <;> exact ⟨by simp, by simp⟩

theorem planAtPoint_ownKept (s : State) : OwnKept s (planAtPoint s) := by
  unfold planAtPoint
  split
  case h_1 | h_2 => exact ⟨by simp, by simp⟩
  case h_3 => exact countMiss_ownKept s
  case h_4 => exact .refl s

theorem alignAtPeak_ownKept (s : State) : OwnKept s (alignAtPeak s) := by
  unfold alignAtPeak
  split <;> exact ⟨by simp, by simp⟩

theorem drive_ownKept (m : Motor) (x : Phase) (d : Drive) (s : State) : OwnKept s (drive m x d s) := ⟨by simp, by simp⟩

/-! ### Every command -/

/-- Every command is answered by a next state that has the model's own parts as they were (log 20). -/
theorem exec_ownKept (c : Instr) (s : State) : ∃ t, exec c s = .next t ∧ OwnKept s t := by
  cases c with
  | powerReset =>
    refine ⟨_, rfl, ?_⟩
    split
    · exact resetNoticed_ownKept .power s
    · exact resetPart_ownKept .power s
  | pinReset => exact ⟨_, rfl, rfl, rfl⟩
  | pinResetRelease =>
    have released : OwnKept s (s.withLink { s.link with resetN := true }) := ⟨rfl, rfl⟩
    refine ⟨_, rfl, ?_⟩
    split
    · exact .refl s
    · exact released.trans (joinResetNotice_ownKept _)
  | frameBegin => exact ⟨_, rfl, frameBegin_ownKept s⟩
  | shortFrame bits => exact ⟨_, rfl, shortFrame_ownKept bits s⟩
  | breakFrame first => exact ⟨_, rfl, breakFrame_ownKept first s⟩
  | checkError => exact ⟨_, rfl, decideFrame_ownKept checkErrorBody_ownKept s⟩
  | unknownKind | fill | queryUnknownPage => exact ⟨_, rfl, decideFrame_ownKept .refl s⟩
  | controlUnknownCode | tableUnknownId | stopBrakePump => exact ⟨_, rfl, readyFrame_ownKept .refl s⟩
  | setup f permit => exact ⟨_, rfl, decideFrame_ownKept (setupBody_ownKept f permit) s⟩
  | duty d => exact ⟨_, rfl, readyFrame_ownKept (dutyBody_ownKept d) s⟩
  | pump direction duty => exact ⟨_, rfl, readyFrame_ownKept (pumpBody_ownKept direction duty) s⟩
  | rate half pumpHalf => exact ⟨_, rfl, readyFrame_ownKept (rateBody_ownKept half pumpHalf) s⟩
  | tableInput row source input offset trip =>
    exact ⟨_, rfl, readyFrame_ownKept (tableInputBody_ownKept row source input offset trip) s⟩
  | tableCommutation row high low floating polarity =>
    exact ⟨_, rfl, readyFrame_ownKept (tableCommutationBody_ownKept row high low floating polarity) s⟩
  | tableProfile f => exact ⟨_, rfl, readyFrame_ownKept (tableProfileBody_ownKept f) s⟩
  | tableRamp row interval repeats duty =>
    exact ⟨_, rfl, readyFrame_ownKept (tableRampBody_ownKept row interval repeats duty) s⟩
  | tableRampLength length => exact ⟨_, rfl, readyFrame_ownKept (tableRampLengthBody_ownKept length) s⟩
  | queryLink clear =>
    exact ⟨_, rfl, decideFrame_ownKept
      (answerQuery_ownKept _ (takeIf_ownKept (f := clearLinkCounters) (fun _ => ⟨rfl, rfl⟩) clear)) s⟩
  | queryDrum clear =>
    exact ⟨_, rfl, decideFrame_ownKept
      (answerQuery_ownKept _ (takeIf_ownKept (f := clearLostDrum) (fun _ => ⟨rfl, rfl⟩) clear)) s⟩
  | queryPump clear =>
    exact ⟨_, rfl, decideFrame_ownKept
      (answerQuery_ownKept _ (takeIf_ownKept (f := clearLostPump) (fun _ => ⟨rfl, rfl⟩) clear)) s⟩
  | queryDrumSnap =>
    exact ⟨_, rfl, decideFrame_ownKept (answerQuery_ownKept _ (clearing := emptyDrumSnapshot) fun _ => ⟨rfl, rfl⟩) s⟩
  | queryPumpSnap =>
    exact ⟨_, rfl, decideFrame_ownKept (answerQuery_ownKept _ (clearing := emptyPumpSnapshot) fun _ => ⟨rfl, rfl⟩) s⟩
  | queryPumpRingA | queryPumpRingB => exact ⟨_, rfl, decideFrame_ownKept (answerQuery_ownKept _ .refl) s⟩
  | queryTable clear id row => exact ⟨_, rfl, decideFrame_ownKept (queryTableBody_ownKept id row) s⟩
  | startDrum => exact ⟨_, rfl, readyFrame_ownKept startDrumBody_ownKept s⟩
  | startPump => exact ⟨_, rfl, readyFrame_ownKept startPumpBody_ownKept s⟩
  | stopCoastDrum => exact ⟨_, rfl, readyFrame_ownKept stopCoastDrumBody_ownKept s⟩
  | stopBrakeDrum => exact ⟨_, rfl, readyFrame_ownKept stopBrakeDrumBody_ownKept s⟩
  | stopCoastPump => exact ⟨_, rfl, readyFrame_ownKept stopCoastPumpBody_ownKept s⟩
  | clearDrum => exact ⟨_, rfl, readyFrame_ownKept clearDrumBody_ownKept s⟩
  | clearPump => exact ⟨_, rfl, readyFrame_ownKept clearPumpBody_ownKept s⟩
  | dryOn m => exact ⟨_, rfl, readyFrame_ownKept (dryBody_ownKept m true) s⟩
  | dryOff m => exact ⟨_, rfl, readyFrame_ownKept (dryBody_ownKept m false) s⟩
  | reportOn m => exact ⟨_, rfl, readyFrame_ownKept (setReport_ownKept m true) s⟩
  | reportOff m => exact ⟨_, rfl, readyFrame_ownKept (setReport_ownKept m false) s⟩
  | clearFlags => exact ⟨_, rfl, readyFrame_ownKept (fun _ => ⟨rfl, rfl⟩) s⟩
  | reset => exact ⟨_, rfl, readyFrame_ownKept (resetNoticed_ownKept .command) s⟩
  | faultLineFall m => exact ⟨_, rfl, faultLineFall_ownKept m s⟩
  | faultLineRise m => exact ⟨_, rfl, (moveFaultLine_ownKept m false s).ifDue _⟩
  | enableTimeReached m x => exact ⟨_, rfl, OwnKept.ifDue ⟨by simp, by simp⟩ _⟩
  | drumPeriodStart permit o => exact ⟨_, rfl, OwnKept.ifDue ⟨by simp, by simp⟩ _⟩
  | planPoint =>
    have latched : OwnKept s (latchHalf s) := ⟨rfl, rfl⟩
    exact ⟨_, rfl, (latched.trans (planAtPoint_ownKept _)).ifDue _⟩
  | planEdge x =>
    refine ⟨_, rfl, ?_⟩
    split
    · exact drive_ownKept .drum x _ s
    · exact .refl s
  | pumpPeriodStart b => exact ⟨_, rfl, OwnKept.ifDue ⟨by simp, by simp⟩ _⟩
  | pumpPeak =>
    have taken : OwnKept s (takePeak s) := ⟨rfl, rfl⟩
    exact ⟨_, rfl, (taken.trans (alignAtPeak_ownKept _)).ifDue _⟩
  | pumpSpanEdge => exact ⟨_, rfl, (drive_ownKept .pump _ _ s).ifDue _⟩
  | conversionStart =>
    refine ⟨_, rfl, ?_⟩
    split
    · exact ⟨by simp, by simp⟩
    · exact .refl s
  | conversionDone code first =>
    refine ⟨_, rfl, ?_⟩
    split
    · exact ⟨by simp, by simp⟩
    · exact .refl s
  | requestExpiry =>
    refine ⟨_, rfl, ?_⟩
    split
    · exact ⟨by simp, by simp⟩
    · exact .refl s
  | dueCommutation => exact ⟨_, rfl, OwnKept.ifDue ⟨by simp, by simp⟩ _⟩
  | zcTimeout =>
    refine ⟨_, rfl, ?_⟩
    split
    · exact ⟨by simp, by simp⟩
    · exact .refl s
  | rampCommutation => exact ⟨_, rfl, OwnKept.ifDue ⟨by simp, by simp⟩ _⟩

/-- Settles O3, by the cases of the command. -/
theorem everyCommandAnswersNext : Obligations.EveryCommandAnswersNext := by
  unfold Obligations.EveryCommandAnswersNext
  intro c s
  obtain ⟨t, answer, kept⟩ := exec_ownKept c s
  exact ⟨t, answer, kept.pending, kept.freeCount⟩

end Sys2Proof.Machine
end
